-- ==== Sys2Proof/Word.lean ====
section
/-! DEFINITION. The two data widths of the machine (spec 00_scope R8). -/

namespace Sys2Proof

/-- A bus datum and a general register: 8 bits (R8, R40). -/
abbrev Byte := BitVec 8

/-- A bus address, SP and PC: 16 bits (R8, R46, R47). -/
abbrev Word := BitVec 16

end Sys2Proof
end

