-- ==== Sys2Proof/Form.lean ====
section
/-! DEFINITION. The operand kinds of the encoding tables (30_encoding R142 to R147) and the instruction forms:
one constructor for each rule's instruction, with its operands as arguments. Every constructor of `Instr` has one
form (`Instr.form`, Decode.lean); statements quantify over forms. -/

namespace Sys2Proof

/-- `r8[i]` without index 6, the memory operand (R142). -/
inductive R8 where
  | b | c | d | e | h | l | a
  deriving DecidableEq, Repr

/-- `r16[p]` (R143). -/
inductive R16 where
  | bc | de | hl | sp
  deriving DecidableEq, Repr

/-- `r16stk[p]` (R144). -/
inductive R16Stk where
  | bc | de | hl | af
  deriving DecidableEq, Repr

/-- `cond[c]` (R145). -/
inductive Cond where
  | nz | z | nc | c
  deriving DecidableEq, Repr

/-- The eight accumulator operations, field `ooo` (R290). -/
inductive AluOp where
  | add | adc | sub | sbc | and | xor | or | cp
  deriving DecidableEq, Repr

/-- The eight rotate, shift and swap operations of the secondary table, field `y` of block 0 (R151, R364). -/
inductive RotOp where
  | rlc | rrc | rl | rr | sla | sra | swap | srl
  deriving DecidableEq, Repr

/-- The instruction forms, in the order of the instruction rules. -/
inductive Form where
  -- 41_load8
  | ldRegReg (dst src : R8)
  | ldRegImm (dst : R8) (n : Byte)
  | ldRegAtHl (dst : R8)
  | ldAtHlReg (src : R8)
  | ldAtHlImm (n : Byte)
  | ldAAtBc
  | ldAAtDe
  | ldAtBcA
  | ldAtDeA
  | ldAAtHlInc
  | ldAAtHlDec
  | ldAtHlIncA
  | ldAtHlDecA
  | ldAAtNn (nn : Word)
  | ldAtNnA (nn : Word)
  | ldhAAtN (n : Byte)
  | ldhAtNA (n : Byte)
  | ldAAtC
  | ldAtCA
  -- 42_load16
  | ldPairImm (rr : R16) (nn : Word)
  | ldAtNnSp (nn : Word)
  | ldSpHl
  | push (rr : R16Stk)
  | pop (rr : R16Stk)
  | ldHlSpE (e : Byte)
  -- 43_alu8
  | aluReg (op : AluOp) (src : R8)
  | aluAtHl (op : AluOp)
  | aluImm (op : AluOp) (n : Byte)
  | incReg (r : R8)
  | incAtHl
  | decReg (r : R8)
  | decAtHl
  | daa
  | cpl
  | scf
  | ccf
  -- 44_alu16
  | addHl (rr : R16)
  | incPair (rr : R16)
  | decPair (rr : R16)
  | addSpE (e : Byte)
  -- 45_rotate_shift
  | rlca
  | rrca
  | rla
  | rra
  | rotReg (op : RotOp) (r : R8)
  | rotAtHl (op : RotOp)
  -- 46_bit
  | bitReg (b : Fin 8) (r : R8)
  | bitAtHl (b : Fin 8)
  | resReg (b : Fin 8) (r : R8)
  | resAtHl (b : Fin 8)
  | setReg (b : Fin 8) (r : R8)
  | setAtHl (b : Fin 8)
  -- 47_control
  | jp (nn : Word)
  | jpCond (cc : Cond) (nn : Word)
  | jpHl
  | jr (e : Byte)
  | jrCond (cc : Cond) (e : Byte)
  | call (nn : Word)
  | callCond (cc : Cond) (nn : Word)
  | ret
  | retCond (cc : Cond)
  | reti
  | rst (y : Fin 8)
  -- 48_system
  | nop
  | halt
  | stop
  | di
  | ei
  | illegal (op : Byte)
  -- 40_dispatch: the escape byte
  | prefixCb
  deriving DecidableEq, Repr

end Sys2Proof
end

