-- ==== Sys2Proof/Syntax.lean ====
section
/-! DEFINITION. The instruction set: one constructor for each of the 512 rows of spec/opcode_table.json (R160), named
after the row's mnemonic with `at` for a memory operand: `LD (HL+),A` is `ld_atHLinc_A`. `n` is the unsigned immediate
byte, `e` the raw displacement byte, `nn` the 16-bit immediate (R146). The rows with an immediate stand first, then
the others in the table's order; a comment gives the opcode and the rule. -/

namespace Sys2Proof

/-- An instruction of the machine, or one of the table's faulting rows and its escape row (R156). -/
inductive Instr where
  | ld_BC_nn (nn : Word) -- 0x01 R261
  | ld_B_n (n : Byte) -- 0x06 R221
  | ld_atNN_SP (nn : Word) -- 0x08 R262
  | ld_C_n (n : Byte) -- 0x0E R221
  | ld_DE_nn (nn : Word) -- 0x11 R261
  | ld_D_n (n : Byte) -- 0x16 R221
  | jr_e (e : Byte) -- 0x18 R414
  | ld_E_n (n : Byte) -- 0x1E R221
  | jr_NZ_e (e : Byte) -- 0x20 R415
  | ld_HL_nn (nn : Word) -- 0x21 R261
  | ld_H_n (n : Byte) -- 0x26 R221
  | jr_Z_e (e : Byte) -- 0x28 R415
  | ld_L_n (n : Byte) -- 0x2E R221
  | jr_NC_e (e : Byte) -- 0x30 R415
  | ld_SP_nn (nn : Word) -- 0x31 R261
  | ld_atHL_n (n : Byte) -- 0x36 R224
  | jr_C_e (e : Byte) -- 0x38 R415
  | ld_A_n (n : Byte) -- 0x3E R221
  | jp_NZ_nn (nn : Word) -- 0xC2 R412
  | jp_nn (nn : Word) -- 0xC3 R411
  | call_NZ_nn (nn : Word) -- 0xC4 R417
  | add_A_n (n : Byte) -- 0xC6 R292
  | jp_Z_nn (nn : Word) -- 0xCA R412
  | call_Z_nn (nn : Word) -- 0xCC R417
  | call_nn (nn : Word) -- 0xCD R416
  | adc_A_n (n : Byte) -- 0xCE R293
  | jp_NC_nn (nn : Word) -- 0xD2 R412
  | call_NC_nn (nn : Word) -- 0xD4 R417
  | sub_A_n (n : Byte) -- 0xD6 R294
  | jp_C_nn (nn : Word) -- 0xDA R412
  | call_C_nn (nn : Word) -- 0xDC R417
  | sbc_A_n (n : Byte) -- 0xDE R295
  | ldh_atN_A (n : Byte) -- 0xE0 R236
  | and_A_n (n : Byte) -- 0xE6 R296
  | add_SP_e (e : Byte) -- 0xE8 R343
  | ld_atNN_A (nn : Word) -- 0xEA R234
  | xor_A_n (n : Byte) -- 0xEE R297
  | ldh_A_atN (n : Byte) -- 0xF0 R235
  | or_A_n (n : Byte) -- 0xF6 R298
  | ld_HL_SPe (e : Byte) -- 0xF8 R267
  | ld_A_atNN (nn : Word) -- 0xFA R233
  | cp_A_n (n : Byte) -- 0xFE R299
  | nop -- 0x00 R450
  | ld_atBC_A -- 0x02 R227
  | inc_BC -- 0x03 R341
  | inc_B -- 0x04 R300
  | dec_B -- 0x05 R302
  | rlca -- 0x07 R360
  | add_HL_BC -- 0x09 R340
  | ld_A_atBC -- 0x0A R225
  | dec_BC -- 0x0B R342
  | inc_C -- 0x0C R300
  | dec_C -- 0x0D R302
  | rrca -- 0x0F R361
  | stop -- 0x10 R453
  | ld_atDE_A -- 0x12 R228
  | inc_DE -- 0x13 R341
  | inc_D -- 0x14 R300
  | dec_D -- 0x15 R302
  | rla -- 0x17 R362
  | add_HL_DE -- 0x19 R340
  | ld_A_atDE -- 0x1A R226
  | dec_DE -- 0x1B R342
  | inc_E -- 0x1C R300
  | dec_E -- 0x1D R302
  | rra -- 0x1F R363
  | ld_atHLinc_A -- 0x22 R231
  | inc_HL -- 0x23 R341
  | inc_H -- 0x24 R300
  | dec_H -- 0x25 R302
  | daa -- 0x27 R304
  | add_HL_HL -- 0x29 R340
  | ld_A_atHLinc -- 0x2A R229
  | dec_HL -- 0x2B R342
  | inc_L -- 0x2C R300
  | dec_L -- 0x2D R302
  | cpl -- 0x2F R305
  | ld_atHLdec_A -- 0x32 R232
  | inc_SP -- 0x33 R341
  | inc_atHL -- 0x34 R301
  | dec_atHL -- 0x35 R303
  | scf -- 0x37 R306
  | add_HL_SP -- 0x39 R340
  | ld_A_atHLdec -- 0x3A R230
  | dec_SP -- 0x3B R342
  | inc_A -- 0x3C R300
  | dec_A -- 0x3D R302
  | ccf -- 0x3F R307
  | ld_B_B -- 0x40 R220
  | ld_B_C -- 0x41 R220
  | ld_B_D -- 0x42 R220
  | ld_B_E -- 0x43 R220
  | ld_B_H -- 0x44 R220
  | ld_B_L -- 0x45 R220
  | ld_B_atHL -- 0x46 R222
  | ld_B_A -- 0x47 R220
  | ld_C_B -- 0x48 R220
  | ld_C_C -- 0x49 R220
  | ld_C_D -- 0x4A R220
  | ld_C_E -- 0x4B R220
  | ld_C_H -- 0x4C R220
  | ld_C_L -- 0x4D R220
  | ld_C_atHL -- 0x4E R222
  | ld_C_A -- 0x4F R220
  | ld_D_B -- 0x50 R220
  | ld_D_C -- 0x51 R220
  | ld_D_D -- 0x52 R220
  | ld_D_E -- 0x53 R220
  | ld_D_H -- 0x54 R220
  | ld_D_L -- 0x55 R220
  | ld_D_atHL -- 0x56 R222
  | ld_D_A -- 0x57 R220
  | ld_E_B -- 0x58 R220
  | ld_E_C -- 0x59 R220
  | ld_E_D -- 0x5A R220
  | ld_E_E -- 0x5B R220
  | ld_E_H -- 0x5C R220
  | ld_E_L -- 0x5D R220
  | ld_E_atHL -- 0x5E R222
  | ld_E_A -- 0x5F R220
  | ld_H_B -- 0x60 R220
  | ld_H_C -- 0x61 R220
  | ld_H_D -- 0x62 R220
  | ld_H_E -- 0x63 R220
  | ld_H_H -- 0x64 R220
  | ld_H_L -- 0x65 R220
  | ld_H_atHL -- 0x66 R222
  | ld_H_A -- 0x67 R220
  | ld_L_B -- 0x68 R220
  | ld_L_C -- 0x69 R220
  | ld_L_D -- 0x6A R220
  | ld_L_E -- 0x6B R220
  | ld_L_H -- 0x6C R220
  | ld_L_L -- 0x6D R220
  | ld_L_atHL -- 0x6E R222
  | ld_L_A -- 0x6F R220
  | ld_atHL_B -- 0x70 R223
  | ld_atHL_C -- 0x71 R223
  | ld_atHL_D -- 0x72 R223
  | ld_atHL_E -- 0x73 R223
  | ld_atHL_H -- 0x74 R223
  | ld_atHL_L -- 0x75 R223
  | halt -- 0x76 R451
  | ld_atHL_A -- 0x77 R223
  | ld_A_B -- 0x78 R220
  | ld_A_C -- 0x79 R220
  | ld_A_D -- 0x7A R220
  | ld_A_E -- 0x7B R220
  | ld_A_H -- 0x7C R220
  | ld_A_L -- 0x7D R220
  | ld_A_atHL -- 0x7E R222
  | ld_A_A -- 0x7F R220
  | add_A_B -- 0x80 R292
  | add_A_C -- 0x81 R292
  | add_A_D -- 0x82 R292
  | add_A_E -- 0x83 R292
  | add_A_H -- 0x84 R292
  | add_A_L -- 0x85 R292
  | add_A_atHL -- 0x86 R292
  | add_A_A -- 0x87 R292
  | adc_A_B -- 0x88 R293
  | adc_A_C -- 0x89 R293
  | adc_A_D -- 0x8A R293
  | adc_A_E -- 0x8B R293
  | adc_A_H -- 0x8C R293
  | adc_A_L -- 0x8D R293
  | adc_A_atHL -- 0x8E R293
  | adc_A_A -- 0x8F R293
  | sub_A_B -- 0x90 R294
  | sub_A_C -- 0x91 R294
  | sub_A_D -- 0x92 R294
  | sub_A_E -- 0x93 R294
  | sub_A_H -- 0x94 R294
  | sub_A_L -- 0x95 R294
  | sub_A_atHL -- 0x96 R294
  | sub_A_A -- 0x97 R294
  | sbc_A_B -- 0x98 R295
  | sbc_A_C -- 0x99 R295
  | sbc_A_D -- 0x9A R295
  | sbc_A_E -- 0x9B R295
  | sbc_A_H -- 0x9C R295
  | sbc_A_L -- 0x9D R295
  | sbc_A_atHL -- 0x9E R295
  | sbc_A_A -- 0x9F R295
  | and_A_B -- 0xA0 R296
  | and_A_C -- 0xA1 R296
  | and_A_D -- 0xA2 R296
  | and_A_E -- 0xA3 R296
  | and_A_H -- 0xA4 R296
  | and_A_L -- 0xA5 R296
  | and_A_atHL -- 0xA6 R296
  | and_A_A -- 0xA7 R296
  | xor_A_B -- 0xA8 R297
  | xor_A_C -- 0xA9 R297
  | xor_A_D -- 0xAA R297
  | xor_A_E -- 0xAB R297
  | xor_A_H -- 0xAC R297
  | xor_A_L -- 0xAD R297
  | xor_A_atHL -- 0xAE R297
  | xor_A_A -- 0xAF R297
  | or_A_B -- 0xB0 R298
  | or_A_C -- 0xB1 R298
  | or_A_D -- 0xB2 R298
  | or_A_E -- 0xB3 R298
  | or_A_H -- 0xB4 R298
  | or_A_L -- 0xB5 R298
  | or_A_atHL -- 0xB6 R298
  | or_A_A -- 0xB7 R298
  | cp_A_B -- 0xB8 R299
  | cp_A_C -- 0xB9 R299
  | cp_A_D -- 0xBA R299
  | cp_A_E -- 0xBB R299
  | cp_A_H -- 0xBC R299
  | cp_A_L -- 0xBD R299
  | cp_A_atHL -- 0xBE R299
  | cp_A_A -- 0xBF R299
  | ret_NZ -- 0xC0 R419
  | pop_BC -- 0xC1 R265
  | push_BC -- 0xC5 R264
  | rst_00 -- 0xC7 R421
  | ret_Z -- 0xC8 R419
  | ret -- 0xC9 R418
  | prefixCB -- 0xCB R188
  | rst_08 -- 0xCF R421
  | ret_NC -- 0xD0 R419
  | pop_DE -- 0xD1 R265
  | illegal_D3 -- 0xD3 R456
  | push_DE -- 0xD5 R264
  | rst_10 -- 0xD7 R421
  | ret_C -- 0xD8 R419
  | reti -- 0xD9 R420
  | illegal_DB -- 0xDB R456
  | illegal_DD -- 0xDD R456
  | rst_18 -- 0xDF R421
  | pop_HL -- 0xE1 R265
  | ld_atC_A -- 0xE2 R238
  | illegal_E3 -- 0xE3 R456
  | illegal_E4 -- 0xE4 R456
  | push_HL -- 0xE5 R264
  | rst_20 -- 0xE7 R421
  | jp_HL -- 0xE9 R413
  | illegal_EB -- 0xEB R456
  | illegal_EC -- 0xEC R456
  | illegal_ED -- 0xED R456
  | rst_28 -- 0xEF R421
  | pop_AF -- 0xF1 R266
  | ld_A_atC -- 0xF2 R237
  | di -- 0xF3 R454
  | illegal_F4 -- 0xF4 R456
  | push_AF -- 0xF5 R264
  | rst_30 -- 0xF7 R421
  | ld_SP_HL -- 0xF9 R263
  | ei -- 0xFB R455
  | illegal_FC -- 0xFC R456
  | illegal_FD -- 0xFD R456
  | rst_38 -- 0xFF R421
  | rlc_B -- 0xCB 0x00 R365
  | rlc_C -- 0xCB 0x01 R365
  | rlc_D -- 0xCB 0x02 R365
  | rlc_E -- 0xCB 0x03 R365
  | rlc_H -- 0xCB 0x04 R365
  | rlc_L -- 0xCB 0x05 R365
  | rlc_atHL -- 0xCB 0x06 R365
  | rlc_A -- 0xCB 0x07 R365
  | rrc_B -- 0xCB 0x08 R366
  | rrc_C -- 0xCB 0x09 R366
  | rrc_D -- 0xCB 0x0A R366
  | rrc_E -- 0xCB 0x0B R366
  | rrc_H -- 0xCB 0x0C R366
  | rrc_L -- 0xCB 0x0D R366
  | rrc_atHL -- 0xCB 0x0E R366
  | rrc_A -- 0xCB 0x0F R366
  | rl_B -- 0xCB 0x10 R367
  | rl_C -- 0xCB 0x11 R367
  | rl_D -- 0xCB 0x12 R367
  | rl_E -- 0xCB 0x13 R367
  | rl_H -- 0xCB 0x14 R367
  | rl_L -- 0xCB 0x15 R367
  | rl_atHL -- 0xCB 0x16 R367
  | rl_A -- 0xCB 0x17 R367
  | rr_B -- 0xCB 0x18 R368
  | rr_C -- 0xCB 0x19 R368
  | rr_D -- 0xCB 0x1A R368
  | rr_E -- 0xCB 0x1B R368
  | rr_H -- 0xCB 0x1C R368
  | rr_L -- 0xCB 0x1D R368
  | rr_atHL -- 0xCB 0x1E R368
  | rr_A -- 0xCB 0x1F R368
  | sla_B -- 0xCB 0x20 R369
  | sla_C -- 0xCB 0x21 R369
  | sla_D -- 0xCB 0x22 R369
  | sla_E -- 0xCB 0x23 R369
  | sla_H -- 0xCB 0x24 R369
  | sla_L -- 0xCB 0x25 R369
  | sla_atHL -- 0xCB 0x26 R369
  | sla_A -- 0xCB 0x27 R369
  | sra_B -- 0xCB 0x28 R370
  | sra_C -- 0xCB 0x29 R370
  | sra_D -- 0xCB 0x2A R370
  | sra_E -- 0xCB 0x2B R370
  | sra_H -- 0xCB 0x2C R370
  | sra_L -- 0xCB 0x2D R370
  | sra_atHL -- 0xCB 0x2E R370
  | sra_A -- 0xCB 0x2F R370
  | swap_B -- 0xCB 0x30 R371
  | swap_C -- 0xCB 0x31 R371
  | swap_D -- 0xCB 0x32 R371
  | swap_E -- 0xCB 0x33 R371
  | swap_H -- 0xCB 0x34 R371
  | swap_L -- 0xCB 0x35 R371
  | swap_atHL -- 0xCB 0x36 R371
  | swap_A -- 0xCB 0x37 R371
  | srl_B -- 0xCB 0x38 R372
  | srl_C -- 0xCB 0x39 R372
  | srl_D -- 0xCB 0x3A R372
  | srl_E -- 0xCB 0x3B R372
  | srl_H -- 0xCB 0x3C R372
  | srl_L -- 0xCB 0x3D R372
  | srl_atHL -- 0xCB 0x3E R372
  | srl_A -- 0xCB 0x3F R372
  | bit_0_B -- 0xCB 0x40 R390
  | bit_0_C -- 0xCB 0x41 R390
  | bit_0_D -- 0xCB 0x42 R390
  | bit_0_E -- 0xCB 0x43 R390
  | bit_0_H -- 0xCB 0x44 R390
  | bit_0_L -- 0xCB 0x45 R390
  | bit_0_atHL -- 0xCB 0x46 R390
  | bit_0_A -- 0xCB 0x47 R390
  | bit_1_B -- 0xCB 0x48 R390
  | bit_1_C -- 0xCB 0x49 R390
  | bit_1_D -- 0xCB 0x4A R390
  | bit_1_E -- 0xCB 0x4B R390
  | bit_1_H -- 0xCB 0x4C R390
  | bit_1_L -- 0xCB 0x4D R390
  | bit_1_atHL -- 0xCB 0x4E R390
  | bit_1_A -- 0xCB 0x4F R390
  | bit_2_B -- 0xCB 0x50 R390
  | bit_2_C -- 0xCB 0x51 R390
  | bit_2_D -- 0xCB 0x52 R390
  | bit_2_E -- 0xCB 0x53 R390
  | bit_2_H -- 0xCB 0x54 R390
  | bit_2_L -- 0xCB 0x55 R390
  | bit_2_atHL -- 0xCB 0x56 R390
  | bit_2_A -- 0xCB 0x57 R390
  | bit_3_B -- 0xCB 0x58 R390
  | bit_3_C -- 0xCB 0x59 R390
  | bit_3_D -- 0xCB 0x5A R390
  | bit_3_E -- 0xCB 0x5B R390
  | bit_3_H -- 0xCB 0x5C R390
  | bit_3_L -- 0xCB 0x5D R390
  | bit_3_atHL -- 0xCB 0x5E R390
  | bit_3_A -- 0xCB 0x5F R390
  | bit_4_B -- 0xCB 0x60 R390
  | bit_4_C -- 0xCB 0x61 R390
  | bit_4_D -- 0xCB 0x62 R390
  | bit_4_E -- 0xCB 0x63 R390
  | bit_4_H -- 0xCB 0x64 R390
  | bit_4_L -- 0xCB 0x65 R390
  | bit_4_atHL -- 0xCB 0x66 R390
  | bit_4_A -- 0xCB 0x67 R390
  | bit_5_B -- 0xCB 0x68 R390
  | bit_5_C -- 0xCB 0x69 R390
  | bit_5_D -- 0xCB 0x6A R390
  | bit_5_E -- 0xCB 0x6B R390
  | bit_5_H -- 0xCB 0x6C R390
  | bit_5_L -- 0xCB 0x6D R390
  | bit_5_atHL -- 0xCB 0x6E R390
  | bit_5_A -- 0xCB 0x6F R390
  | bit_6_B -- 0xCB 0x70 R390
  | bit_6_C -- 0xCB 0x71 R390
  | bit_6_D -- 0xCB 0x72 R390
  | bit_6_E -- 0xCB 0x73 R390
  | bit_6_H -- 0xCB 0x74 R390
  | bit_6_L -- 0xCB 0x75 R390
  | bit_6_atHL -- 0xCB 0x76 R390
  | bit_6_A -- 0xCB 0x77 R390
  | bit_7_B -- 0xCB 0x78 R390
  | bit_7_C -- 0xCB 0x79 R390
  | bit_7_D -- 0xCB 0x7A R390
  | bit_7_E -- 0xCB 0x7B R390
  | bit_7_H -- 0xCB 0x7C R390
  | bit_7_L -- 0xCB 0x7D R390
  | bit_7_atHL -- 0xCB 0x7E R390
  | bit_7_A -- 0xCB 0x7F R390
  | res_0_B -- 0xCB 0x80 R391
  | res_0_C -- 0xCB 0x81 R391
  | res_0_D -- 0xCB 0x82 R391
  | res_0_E -- 0xCB 0x83 R391
  | res_0_H -- 0xCB 0x84 R391
  | res_0_L -- 0xCB 0x85 R391
  | res_0_atHL -- 0xCB 0x86 R391
  | res_0_A -- 0xCB 0x87 R391
  | res_1_B -- 0xCB 0x88 R391
  | res_1_C -- 0xCB 0x89 R391
  | res_1_D -- 0xCB 0x8A R391
  | res_1_E -- 0xCB 0x8B R391
  | res_1_H -- 0xCB 0x8C R391
  | res_1_L -- 0xCB 0x8D R391
  | res_1_atHL -- 0xCB 0x8E R391
  | res_1_A -- 0xCB 0x8F R391
  | res_2_B -- 0xCB 0x90 R391
  | res_2_C -- 0xCB 0x91 R391
  | res_2_D -- 0xCB 0x92 R391
  | res_2_E -- 0xCB 0x93 R391
  | res_2_H -- 0xCB 0x94 R391
  | res_2_L -- 0xCB 0x95 R391
  | res_2_atHL -- 0xCB 0x96 R391
  | res_2_A -- 0xCB 0x97 R391
  | res_3_B -- 0xCB 0x98 R391
  | res_3_C -- 0xCB 0x99 R391
  | res_3_D -- 0xCB 0x9A R391
  | res_3_E -- 0xCB 0x9B R391
  | res_3_H -- 0xCB 0x9C R391
  | res_3_L -- 0xCB 0x9D R391
  | res_3_atHL -- 0xCB 0x9E R391
  | res_3_A -- 0xCB 0x9F R391
  | res_4_B -- 0xCB 0xA0 R391
  | res_4_C -- 0xCB 0xA1 R391
  | res_4_D -- 0xCB 0xA2 R391
  | res_4_E -- 0xCB 0xA3 R391
  | res_4_H -- 0xCB 0xA4 R391
  | res_4_L -- 0xCB 0xA5 R391
  | res_4_atHL -- 0xCB 0xA6 R391
  | res_4_A -- 0xCB 0xA7 R391
  | res_5_B -- 0xCB 0xA8 R391
  | res_5_C -- 0xCB 0xA9 R391
  | res_5_D -- 0xCB 0xAA R391
  | res_5_E -- 0xCB 0xAB R391
  | res_5_H -- 0xCB 0xAC R391
  | res_5_L -- 0xCB 0xAD R391
  | res_5_atHL -- 0xCB 0xAE R391
  | res_5_A -- 0xCB 0xAF R391
  | res_6_B -- 0xCB 0xB0 R391
  | res_6_C -- 0xCB 0xB1 R391
  | res_6_D -- 0xCB 0xB2 R391
  | res_6_E -- 0xCB 0xB3 R391
  | res_6_H -- 0xCB 0xB4 R391
  | res_6_L -- 0xCB 0xB5 R391
  | res_6_atHL -- 0xCB 0xB6 R391
  | res_6_A -- 0xCB 0xB7 R391
  | res_7_B -- 0xCB 0xB8 R391
  | res_7_C -- 0xCB 0xB9 R391
  | res_7_D -- 0xCB 0xBA R391
  | res_7_E -- 0xCB 0xBB R391
  | res_7_H -- 0xCB 0xBC R391
  | res_7_L -- 0xCB 0xBD R391
  | res_7_atHL -- 0xCB 0xBE R391
  | res_7_A -- 0xCB 0xBF R391
  | set_0_B -- 0xCB 0xC0 R392
  | set_0_C -- 0xCB 0xC1 R392
  | set_0_D -- 0xCB 0xC2 R392
  | set_0_E -- 0xCB 0xC3 R392
  | set_0_H -- 0xCB 0xC4 R392
  | set_0_L -- 0xCB 0xC5 R392
  | set_0_atHL -- 0xCB 0xC6 R392
  | set_0_A -- 0xCB 0xC7 R392
  | set_1_B -- 0xCB 0xC8 R392
  | set_1_C -- 0xCB 0xC9 R392
  | set_1_D -- 0xCB 0xCA R392
  | set_1_E -- 0xCB 0xCB R392
  | set_1_H -- 0xCB 0xCC R392
  | set_1_L -- 0xCB 0xCD R392
  | set_1_atHL -- 0xCB 0xCE R392
  | set_1_A -- 0xCB 0xCF R392
  | set_2_B -- 0xCB 0xD0 R392
  | set_2_C -- 0xCB 0xD1 R392
  | set_2_D -- 0xCB 0xD2 R392
  | set_2_E -- 0xCB 0xD3 R392
  | set_2_H -- 0xCB 0xD4 R392
  | set_2_L -- 0xCB 0xD5 R392
  | set_2_atHL -- 0xCB 0xD6 R392
  | set_2_A -- 0xCB 0xD7 R392
  | set_3_B -- 0xCB 0xD8 R392
  | set_3_C -- 0xCB 0xD9 R392
  | set_3_D -- 0xCB 0xDA R392
  | set_3_E -- 0xCB 0xDB R392
  | set_3_H -- 0xCB 0xDC R392
  | set_3_L -- 0xCB 0xDD R392
  | set_3_atHL -- 0xCB 0xDE R392
  | set_3_A -- 0xCB 0xDF R392
  | set_4_B -- 0xCB 0xE0 R392
  | set_4_C -- 0xCB 0xE1 R392
  | set_4_D -- 0xCB 0xE2 R392
  | set_4_E -- 0xCB 0xE3 R392
  | set_4_H -- 0xCB 0xE4 R392
  | set_4_L -- 0xCB 0xE5 R392
  | set_4_atHL -- 0xCB 0xE6 R392
  | set_4_A -- 0xCB 0xE7 R392
  | set_5_B -- 0xCB 0xE8 R392
  | set_5_C -- 0xCB 0xE9 R392
  | set_5_D -- 0xCB 0xEA R392
  | set_5_E -- 0xCB 0xEB R392
  | set_5_H -- 0xCB 0xEC R392
  | set_5_L -- 0xCB 0xED R392
  | set_5_atHL -- 0xCB 0xEE R392
  | set_5_A -- 0xCB 0xEF R392
  | set_6_B -- 0xCB 0xF0 R392
  | set_6_C -- 0xCB 0xF1 R392
  | set_6_D -- 0xCB 0xF2 R392
  | set_6_E -- 0xCB 0xF3 R392
  | set_6_H -- 0xCB 0xF4 R392
  | set_6_L -- 0xCB 0xF5 R392
  | set_6_atHL -- 0xCB 0xF6 R392
  | set_6_A -- 0xCB 0xF7 R392
  | set_7_B -- 0xCB 0xF8 R392
  | set_7_C -- 0xCB 0xF9 R392
  | set_7_D -- 0xCB 0xFA R392
  | set_7_E -- 0xCB 0xFB R392
  | set_7_H -- 0xCB 0xFC R392
  | set_7_L -- 0xCB 0xFD R392
  | set_7_atHL -- 0xCB 0xFE R392
  | set_7_A -- 0xCB 0xFF R392
  deriving DecidableEq, Repr

end Sys2Proof
end

