-- ==== Sys2Proof/WellFormed.lean ====
section
/-! DEFINITION. Which terms of `Instr` are whole instructions. The operands' types bound every field, so one check is
left: the escape byte is no instruction of its own (R140, R188). -/

namespace Sys2Proof

/-- The check that `i` is more than the escape byte (R188: "The prefix is not an instruction of its own"). -/
def Instr.isWhole (i : Instr) : Bool := decide (i ≠ .prefixCB)

/-- A whole instruction. -/
abbrev Instr.WellFormed (i : Instr) : Prop := i.isWhole = true

end Sys2Proof
end

