-- ==== Sys2Proof/Decode.lean ====
section
/-! DEFINITION. The decoder (R140 to R159), from the spec's flat tables R149 and R152, and after it the encoder, from the
spec's bit fields R141 to R151 and the encoding line of each rule. The two are written from different passages of the
spec, so that their agreement says something. The byte-order helpers they share stand first. -/

namespace Sys2Proof

/-! ## Bytes and words (R10, R115) -/

/-- `hi:lo`, the first byte being bits 15:8 (R10). -/
def ofBytes (hi lo : Byte) : Word := hi ++ lo

/-- `w[15:8]`. -/
def hiByte (w : Word) : Byte := w.extractLsb' 8 8

/-- `w[7:0]`. -/
def loByte (w : Word) : Byte := w.extractLsb' 0 8

/-- The high nibble of a byte, as an index. -/
def hiNibble (b : Byte) : Fin 16 := ⟨b.toNat / 16, by have := b.isLt; omega⟩

/-- The low nibble of a byte, as an index. -/
def loNibble (b : Byte) : Fin 16 := ⟨b.toNat % 16, by omega⟩

/-! ## The decoder -/

/-- The escape byte (R150). -/
def escapeByte : Byte := 0xCB#8

/-- The opcodes of format `op_n16` (R157). -/
def opN16 : List Byte :=
  [0x01, 0x08, 0x11, 0x21, 0x31, 0xC2, 0xC3, 0xC4, 0xCA, 0xCC, 0xCD, 0xD2, 0xD4, 0xDA, 0xDC, 0xEA, 0xFA]

/-- The opcodes of format `op_n8` (R157). -/
def opN8 : List Byte :=
  [0x06, 0x0E, 0x16, 0x1E, 0x26, 0x2E, 0x36, 0x3E, 0xC6, 0xCE, 0xD6, 0xDE, 0xE0, 0xE6, 0xEE, 0xF0, 0xF6, 0xFE]

/-- The opcodes of format `op_e8` (R157). -/
def opE8 : List Byte := [0x18, 0x20, 0x28, 0x30, 0x38, 0xE8, 0xF8]

/-- The length of an instruction in bytes, from its first byte alone (R157). -/
def instrLength (op : Byte) : Nat :=
  if op ∈ opN16 then 3
  else if op ∈ opN8 ∨ op ∈ opE8 ∨ op = escapeByte then 2
  else 1


/-- The primary table (R149): row = high nibble, column = low nibble of the opcode byte. An entry takes the two bytes
that follow the opcode; it uses the ones its format has (R140). -/
def primaryTable : Vector (Vector (Byte → Byte → Instr) 16) 16 :=
  #v[
    #v[ fun _ _ => .nop,
        fun l h => .ld_BC_nn (ofBytes h l),
        fun _ _ => .ld_atBC_A,
        fun _ _ => .inc_BC,
        fun _ _ => .inc_B,
        fun _ _ => .dec_B,
        fun n _ => .ld_B_n n,
        fun _ _ => .rlca,
        fun l h => .ld_atNN_SP (ofBytes h l),
        fun _ _ => .add_HL_BC,
        fun _ _ => .ld_A_atBC,
        fun _ _ => .dec_BC,
        fun _ _ => .inc_C,
        fun _ _ => .dec_C,
        fun n _ => .ld_C_n n,
        fun _ _ => .rrca ],
    #v[ fun _ _ => .stop,
        fun l h => .ld_DE_nn (ofBytes h l),
        fun _ _ => .ld_atDE_A,
        fun _ _ => .inc_DE,
        fun _ _ => .inc_D,
        fun _ _ => .dec_D,
        fun n _ => .ld_D_n n,
        fun _ _ => .rla,
        fun e _ => .jr_e e,
        fun _ _ => .add_HL_DE,
        fun _ _ => .ld_A_atDE,
        fun _ _ => .dec_DE,
        fun _ _ => .inc_E,
        fun _ _ => .dec_E,
        fun n _ => .ld_E_n n,
        fun _ _ => .rra ],
    #v[ fun e _ => .jr_NZ_e e,
        fun l h => .ld_HL_nn (ofBytes h l),
        fun _ _ => .ld_atHLinc_A,
        fun _ _ => .inc_HL,
        fun _ _ => .inc_H,
        fun _ _ => .dec_H,
        fun n _ => .ld_H_n n,
        fun _ _ => .daa,
        fun e _ => .jr_Z_e e,
        fun _ _ => .add_HL_HL,
        fun _ _ => .ld_A_atHLinc,
        fun _ _ => .dec_HL,
        fun _ _ => .inc_L,
        fun _ _ => .dec_L,
        fun n _ => .ld_L_n n,
        fun _ _ => .cpl ],
    #v[ fun e _ => .jr_NC_e e,
        fun l h => .ld_SP_nn (ofBytes h l),
        fun _ _ => .ld_atHLdec_A,
        fun _ _ => .inc_SP,
        fun _ _ => .inc_atHL,
        fun _ _ => .dec_atHL,
        fun n _ => .ld_atHL_n n,
        fun _ _ => .scf,
        fun e _ => .jr_C_e e,
        fun _ _ => .add_HL_SP,
        fun _ _ => .ld_A_atHLdec,
        fun _ _ => .dec_SP,
        fun _ _ => .inc_A,
        fun _ _ => .dec_A,
        fun n _ => .ld_A_n n,
        fun _ _ => .ccf ],
    #v[ fun _ _ => .ld_B_B,
        fun _ _ => .ld_B_C,
        fun _ _ => .ld_B_D,
        fun _ _ => .ld_B_E,
        fun _ _ => .ld_B_H,
        fun _ _ => .ld_B_L,
        fun _ _ => .ld_B_atHL,
        fun _ _ => .ld_B_A,
        fun _ _ => .ld_C_B,
        fun _ _ => .ld_C_C,
        fun _ _ => .ld_C_D,
        fun _ _ => .ld_C_E,
        fun _ _ => .ld_C_H,
        fun _ _ => .ld_C_L,
        fun _ _ => .ld_C_atHL,
        fun _ _ => .ld_C_A ],
    #v[ fun _ _ => .ld_D_B,
        fun _ _ => .ld_D_C,
        fun _ _ => .ld_D_D,
        fun _ _ => .ld_D_E,
        fun _ _ => .ld_D_H,
        fun _ _ => .ld_D_L,
        fun _ _ => .ld_D_atHL,
        fun _ _ => .ld_D_A,
        fun _ _ => .ld_E_B,
        fun _ _ => .ld_E_C,
        fun _ _ => .ld_E_D,
        fun _ _ => .ld_E_E,
        fun _ _ => .ld_E_H,
        fun _ _ => .ld_E_L,
        fun _ _ => .ld_E_atHL,
        fun _ _ => .ld_E_A ],
    #v[ fun _ _ => .ld_H_B,
        fun _ _ => .ld_H_C,
        fun _ _ => .ld_H_D,
        fun _ _ => .ld_H_E,
        fun _ _ => .ld_H_H,
        fun _ _ => .ld_H_L,
        fun _ _ => .ld_H_atHL,
        fun _ _ => .ld_H_A,
        fun _ _ => .ld_L_B,
        fun _ _ => .ld_L_C,
        fun _ _ => .ld_L_D,
        fun _ _ => .ld_L_E,
        fun _ _ => .ld_L_H,
        fun _ _ => .ld_L_L,
        fun _ _ => .ld_L_atHL,
        fun _ _ => .ld_L_A ],
    #v[ fun _ _ => .ld_atHL_B,
        fun _ _ => .ld_atHL_C,
        fun _ _ => .ld_atHL_D,
        fun _ _ => .ld_atHL_E,
        fun _ _ => .ld_atHL_H,
        fun _ _ => .ld_atHL_L,
        fun _ _ => .halt,
        fun _ _ => .ld_atHL_A,
        fun _ _ => .ld_A_B,
        fun _ _ => .ld_A_C,
        fun _ _ => .ld_A_D,
        fun _ _ => .ld_A_E,
        fun _ _ => .ld_A_H,
        fun _ _ => .ld_A_L,
        fun _ _ => .ld_A_atHL,
        fun _ _ => .ld_A_A ],
    #v[ fun _ _ => .add_A_B,
        fun _ _ => .add_A_C,
        fun _ _ => .add_A_D,
        fun _ _ => .add_A_E,
        fun _ _ => .add_A_H,
        fun _ _ => .add_A_L,
        fun _ _ => .add_A_atHL,
        fun _ _ => .add_A_A,
        fun _ _ => .adc_A_B,
        fun _ _ => .adc_A_C,
        fun _ _ => .adc_A_D,
        fun _ _ => .adc_A_E,
        fun _ _ => .adc_A_H,
        fun _ _ => .adc_A_L,
        fun _ _ => .adc_A_atHL,
        fun _ _ => .adc_A_A ],
    #v[ fun _ _ => .sub_A_B,
        fun _ _ => .sub_A_C,
        fun _ _ => .sub_A_D,
        fun _ _ => .sub_A_E,
        fun _ _ => .sub_A_H,
        fun _ _ => .sub_A_L,
        fun _ _ => .sub_A_atHL,
        fun _ _ => .sub_A_A,
        fun _ _ => .sbc_A_B,
        fun _ _ => .sbc_A_C,
        fun _ _ => .sbc_A_D,
        fun _ _ => .sbc_A_E,
        fun _ _ => .sbc_A_H,
        fun _ _ => .sbc_A_L,
        fun _ _ => .sbc_A_atHL,
        fun _ _ => .sbc_A_A ],
    #v[ fun _ _ => .and_A_B,
        fun _ _ => .and_A_C,
        fun _ _ => .and_A_D,
        fun _ _ => .and_A_E,
        fun _ _ => .and_A_H,
        fun _ _ => .and_A_L,
        fun _ _ => .and_A_atHL,
        fun _ _ => .and_A_A,
        fun _ _ => .xor_A_B,
        fun _ _ => .xor_A_C,
        fun _ _ => .xor_A_D,
        fun _ _ => .xor_A_E,
        fun _ _ => .xor_A_H,
        fun _ _ => .xor_A_L,
        fun _ _ => .xor_A_atHL,
        fun _ _ => .xor_A_A ],
    #v[ fun _ _ => .or_A_B,
        fun _ _ => .or_A_C,
        fun _ _ => .or_A_D,
        fun _ _ => .or_A_E,
        fun _ _ => .or_A_H,
        fun _ _ => .or_A_L,
        fun _ _ => .or_A_atHL,
        fun _ _ => .or_A_A,
        fun _ _ => .cp_A_B,
        fun _ _ => .cp_A_C,
        fun _ _ => .cp_A_D,
        fun _ _ => .cp_A_E,
        fun _ _ => .cp_A_H,
        fun _ _ => .cp_A_L,
        fun _ _ => .cp_A_atHL,
        fun _ _ => .cp_A_A ],
    #v[ fun _ _ => .ret_NZ,
        fun _ _ => .pop_BC,
        fun l h => .jp_NZ_nn (ofBytes h l),
        fun l h => .jp_nn (ofBytes h l),
        fun l h => .call_NZ_nn (ofBytes h l),
        fun _ _ => .push_BC,
        fun n _ => .add_A_n n,
        fun _ _ => .rst_00,
        fun _ _ => .ret_Z,
        fun _ _ => .ret,
        fun l h => .jp_Z_nn (ofBytes h l),
        fun _ _ => .prefixCB,
        fun l h => .call_Z_nn (ofBytes h l),
        fun l h => .call_nn (ofBytes h l),
        fun n _ => .adc_A_n n,
        fun _ _ => .rst_08 ],
    #v[ fun _ _ => .ret_NC,
        fun _ _ => .pop_DE,
        fun l h => .jp_NC_nn (ofBytes h l),
        fun _ _ => .illegal_D3,
        fun l h => .call_NC_nn (ofBytes h l),
        fun _ _ => .push_DE,
        fun n _ => .sub_A_n n,
        fun _ _ => .rst_10,
        fun _ _ => .ret_C,
        fun _ _ => .reti,
        fun l h => .jp_C_nn (ofBytes h l),
        fun _ _ => .illegal_DB,
        fun l h => .call_C_nn (ofBytes h l),
        fun _ _ => .illegal_DD,
        fun n _ => .sbc_A_n n,
        fun _ _ => .rst_18 ],
    #v[ fun n _ => .ldh_atN_A n,
        fun _ _ => .pop_HL,
        fun _ _ => .ld_atC_A,
        fun _ _ => .illegal_E3,
        fun _ _ => .illegal_E4,
        fun _ _ => .push_HL,
        fun n _ => .and_A_n n,
        fun _ _ => .rst_20,
        fun e _ => .add_SP_e e,
        fun _ _ => .jp_HL,
        fun l h => .ld_atNN_A (ofBytes h l),
        fun _ _ => .illegal_EB,
        fun _ _ => .illegal_EC,
        fun _ _ => .illegal_ED,
        fun n _ => .xor_A_n n,
        fun _ _ => .rst_28 ],
    #v[ fun n _ => .ldh_A_atN n,
        fun _ _ => .pop_AF,
        fun _ _ => .ld_A_atC,
        fun _ _ => .di,
        fun _ _ => .illegal_F4,
        fun _ _ => .push_AF,
        fun n _ => .or_A_n n,
        fun _ _ => .rst_30,
        fun e _ => .ld_HL_SPe e,
        fun _ _ => .ld_SP_HL,
        fun l h => .ld_A_atNN (ofBytes h l),
        fun _ _ => .ei,
        fun _ _ => .illegal_FC,
        fun _ _ => .illegal_FD,
        fun n _ => .cp_A_n n,
        fun _ _ => .rst_38 ] ]

/-- The secondary table (R152): row = high nibble, column = low nibble of the byte after 0xCB. -/
def secondaryTable : Vector (Vector Instr 16) 16 :=
  #v[
    #v[ .rlc_B, .rlc_C, .rlc_D, .rlc_E, .rlc_H, .rlc_L, .rlc_atHL, .rlc_A,
        .rrc_B, .rrc_C, .rrc_D, .rrc_E, .rrc_H, .rrc_L, .rrc_atHL, .rrc_A ],
    #v[ .rl_B, .rl_C, .rl_D, .rl_E, .rl_H, .rl_L, .rl_atHL, .rl_A,
        .rr_B, .rr_C, .rr_D, .rr_E, .rr_H, .rr_L, .rr_atHL, .rr_A ],
    #v[ .sla_B, .sla_C, .sla_D, .sla_E, .sla_H, .sla_L, .sla_atHL, .sla_A,
        .sra_B, .sra_C, .sra_D, .sra_E, .sra_H, .sra_L, .sra_atHL, .sra_A ],
    #v[ .swap_B, .swap_C, .swap_D, .swap_E, .swap_H, .swap_L, .swap_atHL, .swap_A,
        .srl_B, .srl_C, .srl_D, .srl_E, .srl_H, .srl_L, .srl_atHL, .srl_A ],
    #v[ .bit_0_B, .bit_0_C, .bit_0_D, .bit_0_E, .bit_0_H, .bit_0_L, .bit_0_atHL, .bit_0_A,
        .bit_1_B, .bit_1_C, .bit_1_D, .bit_1_E, .bit_1_H, .bit_1_L, .bit_1_atHL, .bit_1_A ],
    #v[ .bit_2_B, .bit_2_C, .bit_2_D, .bit_2_E, .bit_2_H, .bit_2_L, .bit_2_atHL, .bit_2_A,
        .bit_3_B, .bit_3_C, .bit_3_D, .bit_3_E, .bit_3_H, .bit_3_L, .bit_3_atHL, .bit_3_A ],
    #v[ .bit_4_B, .bit_4_C, .bit_4_D, .bit_4_E, .bit_4_H, .bit_4_L, .bit_4_atHL, .bit_4_A,
        .bit_5_B, .bit_5_C, .bit_5_D, .bit_5_E, .bit_5_H, .bit_5_L, .bit_5_atHL, .bit_5_A ],
    #v[ .bit_6_B, .bit_6_C, .bit_6_D, .bit_6_E, .bit_6_H, .bit_6_L, .bit_6_atHL, .bit_6_A,
        .bit_7_B, .bit_7_C, .bit_7_D, .bit_7_E, .bit_7_H, .bit_7_L, .bit_7_atHL, .bit_7_A ],
    #v[ .res_0_B, .res_0_C, .res_0_D, .res_0_E, .res_0_H, .res_0_L, .res_0_atHL, .res_0_A,
        .res_1_B, .res_1_C, .res_1_D, .res_1_E, .res_1_H, .res_1_L, .res_1_atHL, .res_1_A ],
    #v[ .res_2_B, .res_2_C, .res_2_D, .res_2_E, .res_2_H, .res_2_L, .res_2_atHL, .res_2_A,
        .res_3_B, .res_3_C, .res_3_D, .res_3_E, .res_3_H, .res_3_L, .res_3_atHL, .res_3_A ],
    #v[ .res_4_B, .res_4_C, .res_4_D, .res_4_E, .res_4_H, .res_4_L, .res_4_atHL, .res_4_A,
        .res_5_B, .res_5_C, .res_5_D, .res_5_E, .res_5_H, .res_5_L, .res_5_atHL, .res_5_A ],
    #v[ .res_6_B, .res_6_C, .res_6_D, .res_6_E, .res_6_H, .res_6_L, .res_6_atHL, .res_6_A,
        .res_7_B, .res_7_C, .res_7_D, .res_7_E, .res_7_H, .res_7_L, .res_7_atHL, .res_7_A ],
    #v[ .set_0_B, .set_0_C, .set_0_D, .set_0_E, .set_0_H, .set_0_L, .set_0_atHL, .set_0_A,
        .set_1_B, .set_1_C, .set_1_D, .set_1_E, .set_1_H, .set_1_L, .set_1_atHL, .set_1_A ],
    #v[ .set_2_B, .set_2_C, .set_2_D, .set_2_E, .set_2_H, .set_2_L, .set_2_atHL, .set_2_A,
        .set_3_B, .set_3_C, .set_3_D, .set_3_E, .set_3_H, .set_3_L, .set_3_atHL, .set_3_A ],
    #v[ .set_4_B, .set_4_C, .set_4_D, .set_4_E, .set_4_H, .set_4_L, .set_4_atHL, .set_4_A,
        .set_5_B, .set_5_C, .set_5_D, .set_5_E, .set_5_H, .set_5_L, .set_5_atHL, .set_5_A ],
    #v[ .set_6_B, .set_6_C, .set_6_D, .set_6_E, .set_6_H, .set_6_L, .set_6_atHL, .set_6_A,
        .set_7_B, .set_7_C, .set_7_D, .set_7_E, .set_7_H, .set_7_L, .set_7_atHL, .set_7_A ] ]

/-- The entry of the primary table for an opcode byte (R187), given the two bytes after it. -/
def primary (op b1 b2 : Byte) : Instr := ((primaryTable.get (hiNibble op)).get (loNibble op)) b1 b2

/-- The entry of the secondary table for the byte after the escape (R188). -/
def secondary (op2 : Byte) : Instr := (secondaryTable.get (hiNibble op2)).get (loNibble op2)

/-- The instruction whose first byte is `op` and whose next bytes are `b1` and `b2`, as far as it has them (R150, R189). -/
def assemble (op b1 b2 : Byte) : Instr :=
  if op = escapeByte then secondary b1 else primary op b1 b2

/-- Why a list of bytes holds no instruction. Every opcode has a row (R189), so only missing bytes are rejected. -/
inductive DecodeReject where
  | noBytes
  | missingOperand (op : Byte)
  deriving DecidableEq, Repr

/-- The instruction at the head of a list of bytes, and the bytes after it. The escape byte with nothing after it is
the table's own row for it (`prefixCB`); with a byte after it, it opens a secondary instruction (R150). -/
def decode (bytes : List Byte) : Except DecodeReject (Instr × List Byte) :=
  match bytes with
  | [] => .error .noBytes
  | op :: rest =>
    match instrLength op, rest with
    | 1, _ => .ok (assemble op 0 0, rest)
    | 2, b1 :: rest' => .ok (assemble op b1 0, rest')
    | 3, b1 :: b2 :: rest' => .ok (assemble op b1 b2, rest')
    | _, _ => if op = escapeByte ∧ rest = [] then .ok (.prefixCB, []) else .error (.missingOperand op)

/-! ## The encoder -/


/-- The form of each instruction: its rule and its operands (R141 to R147, the table's `fields`). -/
def Instr.form (i : Instr) : Form :=
  match i with
  | .nop => .nop
  | .ld_BC_nn nn => .ldPairImm .bc nn
  | .ld_atBC_A => .ldAtBcA
  | .inc_BC => .incPair .bc
  | .inc_B => .incReg .b
  | .dec_B => .decReg .b
  | .ld_B_n n => .ldRegImm .b n
  | .rlca => .rlca
  | .ld_atNN_SP nn => .ldAtNnSp nn
  | .add_HL_BC => .addHl .bc
  | .ld_A_atBC => .ldAAtBc
  | .dec_BC => .decPair .bc
  | .inc_C => .incReg .c
  | .dec_C => .decReg .c
  | .ld_C_n n => .ldRegImm .c n
  | .rrca => .rrca
  | .stop => .stop
  | .ld_DE_nn nn => .ldPairImm .de nn
  | .ld_atDE_A => .ldAtDeA
  | .inc_DE => .incPair .de
  | .inc_D => .incReg .d
  | .dec_D => .decReg .d
  | .ld_D_n n => .ldRegImm .d n
  | .rla => .rla
  | .jr_e e => .jr e
  | .add_HL_DE => .addHl .de
  | .ld_A_atDE => .ldAAtDe
  | .dec_DE => .decPair .de
  | .inc_E => .incReg .e
  | .dec_E => .decReg .e
  | .ld_E_n n => .ldRegImm .e n
  | .rra => .rra
  | .jr_NZ_e e => .jrCond .nz e
  | .ld_HL_nn nn => .ldPairImm .hl nn
  | .ld_atHLinc_A => .ldAtHlIncA
  | .inc_HL => .incPair .hl
  | .inc_H => .incReg .h
  | .dec_H => .decReg .h
  | .ld_H_n n => .ldRegImm .h n
  | .daa => .daa
  | .jr_Z_e e => .jrCond .z e
  | .add_HL_HL => .addHl .hl
  | .ld_A_atHLinc => .ldAAtHlInc
  | .dec_HL => .decPair .hl
  | .inc_L => .incReg .l
  | .dec_L => .decReg .l
  | .ld_L_n n => .ldRegImm .l n
  | .cpl => .cpl
  | .jr_NC_e e => .jrCond .nc e
  | .ld_SP_nn nn => .ldPairImm .sp nn
  | .ld_atHLdec_A => .ldAtHlDecA
  | .inc_SP => .incPair .sp
  | .inc_atHL => .incAtHl
  | .dec_atHL => .decAtHl
  | .ld_atHL_n n => .ldAtHlImm n
  | .scf => .scf
  | .jr_C_e e => .jrCond .c e
  | .add_HL_SP => .addHl .sp
  | .ld_A_atHLdec => .ldAAtHlDec
  | .dec_SP => .decPair .sp
  | .inc_A => .incReg .a
  | .dec_A => .decReg .a
  | .ld_A_n n => .ldRegImm .a n
  | .ccf => .ccf
  | .ld_B_B => .ldRegReg .b .b
  | .ld_B_C => .ldRegReg .b .c
  | .ld_B_D => .ldRegReg .b .d
  | .ld_B_E => .ldRegReg .b .e
  | .ld_B_H => .ldRegReg .b .h
  | .ld_B_L => .ldRegReg .b .l
  | .ld_B_atHL => .ldRegAtHl .b
  | .ld_B_A => .ldRegReg .b .a
  | .ld_C_B => .ldRegReg .c .b
  | .ld_C_C => .ldRegReg .c .c
  | .ld_C_D => .ldRegReg .c .d
  | .ld_C_E => .ldRegReg .c .e
  | .ld_C_H => .ldRegReg .c .h
  | .ld_C_L => .ldRegReg .c .l
  | .ld_C_atHL => .ldRegAtHl .c
  | .ld_C_A => .ldRegReg .c .a
  | .ld_D_B => .ldRegReg .d .b
  | .ld_D_C => .ldRegReg .d .c
  | .ld_D_D => .ldRegReg .d .d
  | .ld_D_E => .ldRegReg .d .e
  | .ld_D_H => .ldRegReg .d .h
  | .ld_D_L => .ldRegReg .d .l
  | .ld_D_atHL => .ldRegAtHl .d
  | .ld_D_A => .ldRegReg .d .a
  | .ld_E_B => .ldRegReg .e .b
  | .ld_E_C => .ldRegReg .e .c
  | .ld_E_D => .ldRegReg .e .d
  | .ld_E_E => .ldRegReg .e .e
  | .ld_E_H => .ldRegReg .e .h
  | .ld_E_L => .ldRegReg .e .l
  | .ld_E_atHL => .ldRegAtHl .e
  | .ld_E_A => .ldRegReg .e .a
  | .ld_H_B => .ldRegReg .h .b
  | .ld_H_C => .ldRegReg .h .c
  | .ld_H_D => .ldRegReg .h .d
  | .ld_H_E => .ldRegReg .h .e
  | .ld_H_H => .ldRegReg .h .h
  | .ld_H_L => .ldRegReg .h .l
  | .ld_H_atHL => .ldRegAtHl .h
  | .ld_H_A => .ldRegReg .h .a
  | .ld_L_B => .ldRegReg .l .b
  | .ld_L_C => .ldRegReg .l .c
  | .ld_L_D => .ldRegReg .l .d
  | .ld_L_E => .ldRegReg .l .e
  | .ld_L_H => .ldRegReg .l .h
  | .ld_L_L => .ldRegReg .l .l
  | .ld_L_atHL => .ldRegAtHl .l
  | .ld_L_A => .ldRegReg .l .a
  | .ld_atHL_B => .ldAtHlReg .b
  | .ld_atHL_C => .ldAtHlReg .c
  | .ld_atHL_D => .ldAtHlReg .d
  | .ld_atHL_E => .ldAtHlReg .e
  | .ld_atHL_H => .ldAtHlReg .h
  | .ld_atHL_L => .ldAtHlReg .l
  | .halt => .halt
  | .ld_atHL_A => .ldAtHlReg .a
  | .ld_A_B => .ldRegReg .a .b
  | .ld_A_C => .ldRegReg .a .c
  | .ld_A_D => .ldRegReg .a .d
  | .ld_A_E => .ldRegReg .a .e
  | .ld_A_H => .ldRegReg .a .h
  | .ld_A_L => .ldRegReg .a .l
  | .ld_A_atHL => .ldRegAtHl .a
  | .ld_A_A => .ldRegReg .a .a
  | .add_A_B => .aluReg .add .b
  | .add_A_C => .aluReg .add .c
  | .add_A_D => .aluReg .add .d
  | .add_A_E => .aluReg .add .e
  | .add_A_H => .aluReg .add .h
  | .add_A_L => .aluReg .add .l
  | .add_A_atHL => .aluAtHl .add
  | .add_A_A => .aluReg .add .a
  | .adc_A_B => .aluReg .adc .b
  | .adc_A_C => .aluReg .adc .c
  | .adc_A_D => .aluReg .adc .d
  | .adc_A_E => .aluReg .adc .e
  | .adc_A_H => .aluReg .adc .h
  | .adc_A_L => .aluReg .adc .l
  | .adc_A_atHL => .aluAtHl .adc
  | .adc_A_A => .aluReg .adc .a
  | .sub_A_B => .aluReg .sub .b
  | .sub_A_C => .aluReg .sub .c
  | .sub_A_D => .aluReg .sub .d
  | .sub_A_E => .aluReg .sub .e
  | .sub_A_H => .aluReg .sub .h
  | .sub_A_L => .aluReg .sub .l
  | .sub_A_atHL => .aluAtHl .sub
  | .sub_A_A => .aluReg .sub .a
  | .sbc_A_B => .aluReg .sbc .b
  | .sbc_A_C => .aluReg .sbc .c
  | .sbc_A_D => .aluReg .sbc .d
  | .sbc_A_E => .aluReg .sbc .e
  | .sbc_A_H => .aluReg .sbc .h
  | .sbc_A_L => .aluReg .sbc .l
  | .sbc_A_atHL => .aluAtHl .sbc
  | .sbc_A_A => .aluReg .sbc .a
  | .and_A_B => .aluReg .and .b
  | .and_A_C => .aluReg .and .c
  | .and_A_D => .aluReg .and .d
  | .and_A_E => .aluReg .and .e
  | .and_A_H => .aluReg .and .h
  | .and_A_L => .aluReg .and .l
  | .and_A_atHL => .aluAtHl .and
  | .and_A_A => .aluReg .and .a
  | .xor_A_B => .aluReg .xor .b
  | .xor_A_C => .aluReg .xor .c
  | .xor_A_D => .aluReg .xor .d
  | .xor_A_E => .aluReg .xor .e
  | .xor_A_H => .aluReg .xor .h
  | .xor_A_L => .aluReg .xor .l
  | .xor_A_atHL => .aluAtHl .xor
  | .xor_A_A => .aluReg .xor .a
  | .or_A_B => .aluReg .or .b
  | .or_A_C => .aluReg .or .c
  | .or_A_D => .aluReg .or .d
  | .or_A_E => .aluReg .or .e
  | .or_A_H => .aluReg .or .h
  | .or_A_L => .aluReg .or .l
  | .or_A_atHL => .aluAtHl .or
  | .or_A_A => .aluReg .or .a
  | .cp_A_B => .aluReg .cp .b
  | .cp_A_C => .aluReg .cp .c
  | .cp_A_D => .aluReg .cp .d
  | .cp_A_E => .aluReg .cp .e
  | .cp_A_H => .aluReg .cp .h
  | .cp_A_L => .aluReg .cp .l
  | .cp_A_atHL => .aluAtHl .cp
  | .cp_A_A => .aluReg .cp .a
  | .ret_NZ => .retCond .nz
  | .pop_BC => .pop .bc
  | .jp_NZ_nn nn => .jpCond .nz nn
  | .jp_nn nn => .jp nn
  | .call_NZ_nn nn => .callCond .nz nn
  | .push_BC => .push .bc
  | .add_A_n n => .aluImm .add n
  | .rst_00 => .rst 0
  | .ret_Z => .retCond .z
  | .ret => .ret
  | .jp_Z_nn nn => .jpCond .z nn
  | .prefixCB => .prefixCb
  | .call_Z_nn nn => .callCond .z nn
  | .call_nn nn => .call nn
  | .adc_A_n n => .aluImm .adc n
  | .rst_08 => .rst 1
  | .ret_NC => .retCond .nc
  | .pop_DE => .pop .de
  | .jp_NC_nn nn => .jpCond .nc nn
  | .illegal_D3 => .illegal 0xD3#8
  | .call_NC_nn nn => .callCond .nc nn
  | .push_DE => .push .de
  | .sub_A_n n => .aluImm .sub n
  | .rst_10 => .rst 2
  | .ret_C => .retCond .c
  | .reti => .reti
  | .jp_C_nn nn => .jpCond .c nn
  | .illegal_DB => .illegal 0xDB#8
  | .call_C_nn nn => .callCond .c nn
  | .illegal_DD => .illegal 0xDD#8
  | .sbc_A_n n => .aluImm .sbc n
  | .rst_18 => .rst 3
  | .ldh_atN_A n => .ldhAtNA n
  | .pop_HL => .pop .hl
  | .ld_atC_A => .ldAtCA
  | .illegal_E3 => .illegal 0xE3#8
  | .illegal_E4 => .illegal 0xE4#8
  | .push_HL => .push .hl
  | .and_A_n n => .aluImm .and n
  | .rst_20 => .rst 4
  | .add_SP_e e => .addSpE e
  | .jp_HL => .jpHl
  | .ld_atNN_A nn => .ldAtNnA nn
  | .illegal_EB => .illegal 0xEB#8
  | .illegal_EC => .illegal 0xEC#8
  | .illegal_ED => .illegal 0xED#8
  | .xor_A_n n => .aluImm .xor n
  | .rst_28 => .rst 5
  | .ldh_A_atN n => .ldhAAtN n
  | .pop_AF => .pop .af
  | .ld_A_atC => .ldAAtC
  | .di => .di
  | .illegal_F4 => .illegal 0xF4#8
  | .push_AF => .push .af
  | .or_A_n n => .aluImm .or n
  | .rst_30 => .rst 6
  | .ld_HL_SPe e => .ldHlSpE e
  | .ld_SP_HL => .ldSpHl
  | .ld_A_atNN nn => .ldAAtNn nn
  | .ei => .ei
  | .illegal_FC => .illegal 0xFC#8
  | .illegal_FD => .illegal 0xFD#8
  | .cp_A_n n => .aluImm .cp n
  | .rst_38 => .rst 7
  | .rlc_B => .rotReg .rlc .b
  | .rlc_C => .rotReg .rlc .c
  | .rlc_D => .rotReg .rlc .d
  | .rlc_E => .rotReg .rlc .e
  | .rlc_H => .rotReg .rlc .h
  | .rlc_L => .rotReg .rlc .l
  | .rlc_atHL => .rotAtHl .rlc
  | .rlc_A => .rotReg .rlc .a
  | .rrc_B => .rotReg .rrc .b
  | .rrc_C => .rotReg .rrc .c
  | .rrc_D => .rotReg .rrc .d
  | .rrc_E => .rotReg .rrc .e
  | .rrc_H => .rotReg .rrc .h
  | .rrc_L => .rotReg .rrc .l
  | .rrc_atHL => .rotAtHl .rrc
  | .rrc_A => .rotReg .rrc .a
  | .rl_B => .rotReg .rl .b
  | .rl_C => .rotReg .rl .c
  | .rl_D => .rotReg .rl .d
  | .rl_E => .rotReg .rl .e
  | .rl_H => .rotReg .rl .h
  | .rl_L => .rotReg .rl .l
  | .rl_atHL => .rotAtHl .rl
  | .rl_A => .rotReg .rl .a
  | .rr_B => .rotReg .rr .b
  | .rr_C => .rotReg .rr .c
  | .rr_D => .rotReg .rr .d
  | .rr_E => .rotReg .rr .e
  | .rr_H => .rotReg .rr .h
  | .rr_L => .rotReg .rr .l
  | .rr_atHL => .rotAtHl .rr
  | .rr_A => .rotReg .rr .a
  | .sla_B => .rotReg .sla .b
  | .sla_C => .rotReg .sla .c
  | .sla_D => .rotReg .sla .d
  | .sla_E => .rotReg .sla .e
  | .sla_H => .rotReg .sla .h
  | .sla_L => .rotReg .sla .l
  | .sla_atHL => .rotAtHl .sla
  | .sla_A => .rotReg .sla .a
  | .sra_B => .rotReg .sra .b
  | .sra_C => .rotReg .sra .c
  | .sra_D => .rotReg .sra .d
  | .sra_E => .rotReg .sra .e
  | .sra_H => .rotReg .sra .h
  | .sra_L => .rotReg .sra .l
  | .sra_atHL => .rotAtHl .sra
  | .sra_A => .rotReg .sra .a
  | .swap_B => .rotReg .swap .b
  | .swap_C => .rotReg .swap .c
  | .swap_D => .rotReg .swap .d
  | .swap_E => .rotReg .swap .e
  | .swap_H => .rotReg .swap .h
  | .swap_L => .rotReg .swap .l
  | .swap_atHL => .rotAtHl .swap
  | .swap_A => .rotReg .swap .a
  | .srl_B => .rotReg .srl .b
  | .srl_C => .rotReg .srl .c
  | .srl_D => .rotReg .srl .d
  | .srl_E => .rotReg .srl .e
  | .srl_H => .rotReg .srl .h
  | .srl_L => .rotReg .srl .l
  | .srl_atHL => .rotAtHl .srl
  | .srl_A => .rotReg .srl .a
  | .bit_0_B => .bitReg 0 .b
  | .bit_0_C => .bitReg 0 .c
  | .bit_0_D => .bitReg 0 .d
  | .bit_0_E => .bitReg 0 .e
  | .bit_0_H => .bitReg 0 .h
  | .bit_0_L => .bitReg 0 .l
  | .bit_0_atHL => .bitAtHl 0
  | .bit_0_A => .bitReg 0 .a
  | .bit_1_B => .bitReg 1 .b
  | .bit_1_C => .bitReg 1 .c
  | .bit_1_D => .bitReg 1 .d
  | .bit_1_E => .bitReg 1 .e
  | .bit_1_H => .bitReg 1 .h
  | .bit_1_L => .bitReg 1 .l
  | .bit_1_atHL => .bitAtHl 1
  | .bit_1_A => .bitReg 1 .a
  | .bit_2_B => .bitReg 2 .b
  | .bit_2_C => .bitReg 2 .c
  | .bit_2_D => .bitReg 2 .d
  | .bit_2_E => .bitReg 2 .e
  | .bit_2_H => .bitReg 2 .h
  | .bit_2_L => .bitReg 2 .l
  | .bit_2_atHL => .bitAtHl 2
  | .bit_2_A => .bitReg 2 .a
  | .bit_3_B => .bitReg 3 .b
  | .bit_3_C => .bitReg 3 .c
  | .bit_3_D => .bitReg 3 .d
  | .bit_3_E => .bitReg 3 .e
  | .bit_3_H => .bitReg 3 .h
  | .bit_3_L => .bitReg 3 .l
  | .bit_3_atHL => .bitAtHl 3
  | .bit_3_A => .bitReg 3 .a
  | .bit_4_B => .bitReg 4 .b
  | .bit_4_C => .bitReg 4 .c
  | .bit_4_D => .bitReg 4 .d
  | .bit_4_E => .bitReg 4 .e
  | .bit_4_H => .bitReg 4 .h
  | .bit_4_L => .bitReg 4 .l
  | .bit_4_atHL => .bitAtHl 4
  | .bit_4_A => .bitReg 4 .a
  | .bit_5_B => .bitReg 5 .b
  | .bit_5_C => .bitReg 5 .c
  | .bit_5_D => .bitReg 5 .d
  | .bit_5_E => .bitReg 5 .e
  | .bit_5_H => .bitReg 5 .h
  | .bit_5_L => .bitReg 5 .l
  | .bit_5_atHL => .bitAtHl 5
  | .bit_5_A => .bitReg 5 .a
  | .bit_6_B => .bitReg 6 .b
  | .bit_6_C => .bitReg 6 .c
  | .bit_6_D => .bitReg 6 .d
  | .bit_6_E => .bitReg 6 .e
  | .bit_6_H => .bitReg 6 .h
  | .bit_6_L => .bitReg 6 .l
  | .bit_6_atHL => .bitAtHl 6
  | .bit_6_A => .bitReg 6 .a
  | .bit_7_B => .bitReg 7 .b
  | .bit_7_C => .bitReg 7 .c
  | .bit_7_D => .bitReg 7 .d
  | .bit_7_E => .bitReg 7 .e
  | .bit_7_H => .bitReg 7 .h
  | .bit_7_L => .bitReg 7 .l
  | .bit_7_atHL => .bitAtHl 7
  | .bit_7_A => .bitReg 7 .a
  | .res_0_B => .resReg 0 .b
  | .res_0_C => .resReg 0 .c
  | .res_0_D => .resReg 0 .d
  | .res_0_E => .resReg 0 .e
  | .res_0_H => .resReg 0 .h
  | .res_0_L => .resReg 0 .l
  | .res_0_atHL => .resAtHl 0
  | .res_0_A => .resReg 0 .a
  | .res_1_B => .resReg 1 .b
  | .res_1_C => .resReg 1 .c
  | .res_1_D => .resReg 1 .d
  | .res_1_E => .resReg 1 .e
  | .res_1_H => .resReg 1 .h
  | .res_1_L => .resReg 1 .l
  | .res_1_atHL => .resAtHl 1
  | .res_1_A => .resReg 1 .a
  | .res_2_B => .resReg 2 .b
  | .res_2_C => .resReg 2 .c
  | .res_2_D => .resReg 2 .d
  | .res_2_E => .resReg 2 .e
  | .res_2_H => .resReg 2 .h
  | .res_2_L => .resReg 2 .l
  | .res_2_atHL => .resAtHl 2
  | .res_2_A => .resReg 2 .a
  | .res_3_B => .resReg 3 .b
  | .res_3_C => .resReg 3 .c
  | .res_3_D => .resReg 3 .d
  | .res_3_E => .resReg 3 .e
  | .res_3_H => .resReg 3 .h
  | .res_3_L => .resReg 3 .l
  | .res_3_atHL => .resAtHl 3
  | .res_3_A => .resReg 3 .a
  | .res_4_B => .resReg 4 .b
  | .res_4_C => .resReg 4 .c
  | .res_4_D => .resReg 4 .d
  | .res_4_E => .resReg 4 .e
  | .res_4_H => .resReg 4 .h
  | .res_4_L => .resReg 4 .l
  | .res_4_atHL => .resAtHl 4
  | .res_4_A => .resReg 4 .a
  | .res_5_B => .resReg 5 .b
  | .res_5_C => .resReg 5 .c
  | .res_5_D => .resReg 5 .d
  | .res_5_E => .resReg 5 .e
  | .res_5_H => .resReg 5 .h
  | .res_5_L => .resReg 5 .l
  | .res_5_atHL => .resAtHl 5
  | .res_5_A => .resReg 5 .a
  | .res_6_B => .resReg 6 .b
  | .res_6_C => .resReg 6 .c
  | .res_6_D => .resReg 6 .d
  | .res_6_E => .resReg 6 .e
  | .res_6_H => .resReg 6 .h
  | .res_6_L => .resReg 6 .l
  | .res_6_atHL => .resAtHl 6
  | .res_6_A => .resReg 6 .a
  | .res_7_B => .resReg 7 .b
  | .res_7_C => .resReg 7 .c
  | .res_7_D => .resReg 7 .d
  | .res_7_E => .resReg 7 .e
  | .res_7_H => .resReg 7 .h
  | .res_7_L => .resReg 7 .l
  | .res_7_atHL => .resAtHl 7
  | .res_7_A => .resReg 7 .a
  | .set_0_B => .setReg 0 .b
  | .set_0_C => .setReg 0 .c
  | .set_0_D => .setReg 0 .d
  | .set_0_E => .setReg 0 .e
  | .set_0_H => .setReg 0 .h
  | .set_0_L => .setReg 0 .l
  | .set_0_atHL => .setAtHl 0
  | .set_0_A => .setReg 0 .a
  | .set_1_B => .setReg 1 .b
  | .set_1_C => .setReg 1 .c
  | .set_1_D => .setReg 1 .d
  | .set_1_E => .setReg 1 .e
  | .set_1_H => .setReg 1 .h
  | .set_1_L => .setReg 1 .l
  | .set_1_atHL => .setAtHl 1
  | .set_1_A => .setReg 1 .a
  | .set_2_B => .setReg 2 .b
  | .set_2_C => .setReg 2 .c
  | .set_2_D => .setReg 2 .d
  | .set_2_E => .setReg 2 .e
  | .set_2_H => .setReg 2 .h
  | .set_2_L => .setReg 2 .l
  | .set_2_atHL => .setAtHl 2
  | .set_2_A => .setReg 2 .a
  | .set_3_B => .setReg 3 .b
  | .set_3_C => .setReg 3 .c
  | .set_3_D => .setReg 3 .d
  | .set_3_E => .setReg 3 .e
  | .set_3_H => .setReg 3 .h
  | .set_3_L => .setReg 3 .l
  | .set_3_atHL => .setAtHl 3
  | .set_3_A => .setReg 3 .a
  | .set_4_B => .setReg 4 .b
  | .set_4_C => .setReg 4 .c
  | .set_4_D => .setReg 4 .d
  | .set_4_E => .setReg 4 .e
  | .set_4_H => .setReg 4 .h
  | .set_4_L => .setReg 4 .l
  | .set_4_atHL => .setAtHl 4
  | .set_4_A => .setReg 4 .a
  | .set_5_B => .setReg 5 .b
  | .set_5_C => .setReg 5 .c
  | .set_5_D => .setReg 5 .d
  | .set_5_E => .setReg 5 .e
  | .set_5_H => .setReg 5 .h
  | .set_5_L => .setReg 5 .l
  | .set_5_atHL => .setAtHl 5
  | .set_5_A => .setReg 5 .a
  | .set_6_B => .setReg 6 .b
  | .set_6_C => .setReg 6 .c
  | .set_6_D => .setReg 6 .d
  | .set_6_E => .setReg 6 .e
  | .set_6_H => .setReg 6 .h
  | .set_6_L => .setReg 6 .l
  | .set_6_atHL => .setAtHl 6
  | .set_6_A => .setReg 6 .a
  | .set_7_B => .setReg 7 .b
  | .set_7_C => .setReg 7 .c
  | .set_7_D => .setReg 7 .d
  | .set_7_E => .setReg 7 .e
  | .set_7_H => .setReg 7 .h
  | .set_7_L => .setReg 7 .l
  | .set_7_atHL => .setAtHl 7
  | .set_7_A => .setReg 7 .a

/-- The index of a register in `r8` (R142). -/
def R8.code (r : R8) : Nat :=
  match r with
  | .b => 0
  | .c => 1
  | .d => 2
  | .e => 3
  | .h => 4
  | .l => 5
  | .a => 7

/-- The index of the memory operand `(HL)` in `r8` (R142). -/
def atHlCode : Nat := 6

/-- The index of a pair in `r16` (R143). -/
def R16.code (rr : R16) : Nat :=
  match rr with
  | .bc => 0
  | .de => 1
  | .hl => 2
  | .sp => 3

/-- The index of a pair in `r16stk` (R144). -/
def R16Stk.code (rr : R16Stk) : Nat :=
  match rr with
  | .bc => 0
  | .de => 1
  | .hl => 2
  | .af => 3

/-- The index of a condition in `cond` (R145). -/
def Cond.code (cc : Cond) : Nat :=
  match cc with
  | .nz => 0
  | .z => 1
  | .nc => 2
  | .c => 3

/-- The field `ooo` of an accumulator operation (R290). -/
def AluOp.code (op : AluOp) : Nat :=
  match op with
  | .add => 0
  | .adc => 1
  | .sub => 2
  | .sbc => 3
  | .and => 4
  | .xor => 5
  | .or => 6
  | .cp => 7

/-- The field `y` of a rotate, shift or swap (R151, R364). -/
def RotOp.code (op : RotOp) : Nat :=
  match op with
  | .rlc => 0
  | .rrc => 1
  | .rl => 2
  | .rr => 3
  | .sla => 4
  | .sra => 5
  | .swap => 6
  | .srl => 7

/-- An opcode byte from its fields `x`, `y`, `z` (R141). -/
def opXYZ (x y z : Nat) : Byte := BitVec.ofNat 8 (x * 64 + y * 8 + z)

/-- An opcode byte from its fields `x`, `p`, `q`, `z` (R141). -/
def opXPQZ (x p q z : Nat) : Byte := BitVec.ofNat 8 (x * 64 + p * 16 + q * 8 + z)

/-- The bytes of a form, from the encoding line of its rule. A 16-bit immediate stands low byte first (R115). -/
def Form.encode (f : Form) : List Byte :=
  match f with
  | .ldRegReg dst src => [opXYZ 1 dst.code src.code]
  | .ldRegImm dst n => [opXYZ 0 dst.code 6, n]
  | .ldRegAtHl dst => [opXYZ 1 dst.code atHlCode]
  | .ldAtHlReg src => [opXYZ 1 atHlCode src.code]
  | .ldAtHlImm n => [0b00110110#8, n]
  | .ldAAtBc => [0b00001010#8]
  | .ldAAtDe => [0b00011010#8]
  | .ldAtBcA => [0b00000010#8]
  | .ldAtDeA => [0b00010010#8]
  | .ldAAtHlInc => [0b00101010#8]
  | .ldAAtHlDec => [0b00111010#8]
  | .ldAtHlIncA => [0b00100010#8]
  | .ldAtHlDecA => [0b00110010#8]
  | .ldAAtNn nn => [0b11111010#8, loByte nn, hiByte nn]
  | .ldAtNnA nn => [0b11101010#8, loByte nn, hiByte nn]
  | .ldhAAtN n => [0b11110000#8, n]
  | .ldhAtNA n => [0b11100000#8, n]
  | .ldAAtC => [0b11110010#8]
  | .ldAtCA => [0b11100010#8]
  | .ldPairImm rr nn => [opXPQZ 0 rr.code 0 1, loByte nn, hiByte nn]
  | .ldAtNnSp nn => [0b00001000#8, loByte nn, hiByte nn]
  | .ldSpHl => [0b11111001#8]
  | .push rr => [opXPQZ 3 rr.code 0 5]
  | .pop rr => [opXPQZ 3 rr.code 0 1]
  | .ldHlSpE e => [0b11111000#8, e]
  | .aluReg op src => [opXYZ 2 op.code src.code]
  | .aluAtHl op => [opXYZ 2 op.code atHlCode]
  | .aluImm op n => [opXYZ 3 op.code 6, n]
  | .incReg r => [opXYZ 0 r.code 4]
  | .incAtHl => [0b00110100#8]
  | .decReg r => [opXYZ 0 r.code 5]
  | .decAtHl => [0b00110101#8]
  | .daa => [0b00100111#8]
  | .cpl => [0b00101111#8]
  | .scf => [0b00110111#8]
  | .ccf => [0b00111111#8]
  | .addHl rr => [opXPQZ 0 rr.code 1 1]
  | .incPair rr => [opXPQZ 0 rr.code 0 3]
  | .decPair rr => [opXPQZ 0 rr.code 1 3]
  | .addSpE e => [0b11101000#8, e]
  | .rlca => [0b00000111#8]
  | .rrca => [0b00001111#8]
  | .rla => [0b00010111#8]
  | .rra => [0b00011111#8]
  | .rotReg op r => [escapeByte, opXYZ 0 op.code r.code]
  | .rotAtHl op => [escapeByte, opXYZ 0 op.code atHlCode]
  | .bitReg b r => [escapeByte, opXYZ 1 b.val r.code]
  | .bitAtHl b => [escapeByte, opXYZ 1 b.val atHlCode]
  | .resReg b r => [escapeByte, opXYZ 2 b.val r.code]
  | .resAtHl b => [escapeByte, opXYZ 2 b.val atHlCode]
  | .setReg b r => [escapeByte, opXYZ 3 b.val r.code]
  | .setAtHl b => [escapeByte, opXYZ 3 b.val atHlCode]
  | .jp nn => [0b11000011#8, loByte nn, hiByte nn]
  | .jpCond cc nn => [opXYZ 3 cc.code 2, loByte nn, hiByte nn]
  | .jpHl => [0b11101001#8]
  | .jr e => [0b00011000#8, e]
  | .jrCond cc e => [opXYZ 0 (cc.code + 4) 0, e]
  | .call nn => [0b11001101#8, loByte nn, hiByte nn]
  | .callCond cc nn => [opXYZ 3 cc.code 4, loByte nn, hiByte nn]
  | .ret => [0b11001001#8]
  | .retCond cc => [opXYZ 3 cc.code 0]
  | .reti => [0b11011001#8]
  | .rst y => [opXYZ 3 y.val 7]
  | .nop => [0b00000000#8]
  | .halt => [0b01110110#8]
  | .stop => [0b00010000#8]
  | .di => [0b11110011#8]
  | .ei => [0b11111011#8]
  | .illegal op => [op]
  | .prefixCb => [escapeByte]

/-- The bytes of an instruction, in the order in which they lie in memory. -/
def encode (i : Instr) : List Byte := i.form.encode

/-! ## The opcode table's numbering of an instruction's bits -/

/-- Byte `k` of a number whose byte 0 is its least significant byte. -/
def byteOf (w k : Nat) : Byte := BitVec.ofNat 8 (w / 2 ^ (8 * k))

/-- The bytes of an instruction of the opcode table in memory order. Bit 0 is the least significant bit of the first
byte, except that the table reads a secondary row's two bytes as `b0:b1`, so that its 16 bits are 0xCBxx with the
escape byte on top (R160; log entry 8). -/
def tableBytes (nbits w : Nat) : List Byte :=
  if nbits = 16 ∧ byteOf w 1 = escapeByte then [escapeByte, byteOf w 0]
  else (List.range (nbits / 8)).map (byteOf w)

/-- The instruction that the decoder reads from an instruction of the opcode table whose bits are `w`; where the row
gives its operand bytes no bits, they are zeros. -/
def decodeTableWord (nbits w : Nat) : Option Instr :=
  match decode (tableBytes nbits w) with
  | .ok (i, _) => some i
  | .error _ =>
    match decode (tableBytes nbits w ++ [0, 0]) with
    | .ok (i, _) => some i
    | .error _ => none

end Sys2Proof
end

