-- ==== Sys2Proof/Config.lean ====
section
/-! DEFINITION. What a launch fixes for the machine (R9), the register bank's default map (R109), the opaque
audio device's interface (R600) and the one byte that an unlisted address of a store reads as. -/

namespace Sys2Proof

/-- One access the CPU makes to the audio device: the number of `tick()` calls the device had seen, the bus
address, and the byte written (`none` for a read). R67, R600. -/
structure AudioAccess where
  atTick  : Nat
  addr    : Word
  written : Option Byte
  deriving DecidableEq, Repr

/-- All that the opaque device of R600 has been shown: how often it was ticked, and every access, the newest
first. Whatever the device's own state is, it is a function of this history. -/
structure Audio where
  ticks    : Nat
  accesses : List AudioAccess
  deriving DecidableEq, Repr

/-- FREE VALUE (the parameter `AUDIO` of R9, OPEN): what the device answers to a read of an address after a
history. It has no body: no proof can see a value of it (R601). -/
opaque Config.audioRead : Audio → Word → Byte

/-- The registers that `REG_MAP` can give an address to (R109). -/
inductive BusReg where
  | div | tima | tma | tac | intFlag | audio | lcdc | scy | scx | ly | bgp
  deriving DecidableEq, Repr

/-- A row of `REG_MAP`: the addresses `lo` to `hi` reach the register `reg` (R109). -/
structure RegRow where
  lo  : Nat
  hi  : Nat
  reg : BusReg
  deriving DecidableEq, Repr

/-- The default `REG_MAP`: the table of R109, row for row. -/
def Config.regMap : List RegRow :=
  [ ⟨0xFF04, 0xFF04, .div⟩,
    ⟨0xFF05, 0xFF05, .tima⟩,
    ⟨0xFF06, 0xFF06, .tma⟩,
    ⟨0xFF07, 0xFF07, .tac⟩,
    ⟨0xFF0F, 0xFF0F, .intFlag⟩,
    ⟨0xFF10, 0xFF26, .audio⟩,
    ⟨0xFF30, 0xFF3F, .audio⟩,
    ⟨0xFF40, 0xFF40, .lcdc⟩,
    ⟨0xFF42, 0xFF42, .scy⟩,
    ⟨0xFF43, 0xFF43, .scx⟩,
    ⟨0xFF44, 0xFF44, .ly⟩,
    ⟨0xFF47, 0xFF47, .bgp⟩ ]

/-- The parameters of R9 that decide how the machine behaves while it runs. They never change in a run. -/
structure Params where
  /-- `TEST_MODE`: CPU writes to the ROM window store (R103). -/
  testMode : Bool
  /-- `HALT_BUG`: HALT with IME=0 and a request pending skips a PC increment (R452). -/
  haltBug  : Bool
  /-- `REG_MAP`: the assigned register-bank addresses (R109, R110). -/
  regMap   : List RegRow
  deriving DecidableEq, Repr

/-- The defaults of R9. -/
def Config.params : Params := { testMode := false, haltBug := true, regMap := Config.regMap }

/-- What an address of a store reads as while the memory list does not name it. DESIGN CHOICE (log entry 1): one
choice of `INIT_MEM` (R96) and of `ROM_IMAGE` (R9); every other choice is a memory that lists its bytes. -/
def Config.unlisted : Byte := 0x00#8

/-- The Frame Driver's budget in M-cycles (R8, R610). -/
def Config.frameBudget : Nat := 17556

end Sys2Proof
end

