-- ==== Sys2Proof/Machine/State.lean ====
section
/-! DEFINITION. The state of the machine as plain data: every piece of state that 10_state gives it (R40 to R73), the
reasons it can stop (R500 to R502), and its state after power-on (R95 to R97, R700). -/

namespace Sys2Proof.Machine

/-- The four stored bits of F: bits 7, 6, 5 and 4 (R43). Bits 3 to 0 are not stored and read as zero. -/
structure Flags where
  z : Bool
  n : Bool
  h : Bool
  c : Bool
  deriving DecidableEq, Repr

/-- The register file: A, B, C, D, E, H, L, the flags of F, SP and PC (R40, R43, R46, R47). A pair is its two halves
(R41). -/
structure Regs where
  a     : Byte
  b     : Byte
  c     : Byte
  d     : Byte
  e     : Byte
  h     : Byte
  l     : Byte
  flags : Flags
  sp    : Word
  pc    : Word
  deriving DecidableEq, Repr

/-- The timer: `sysclk` (R61), TIMA (R58), TMA (R59) and the stored bits 2 to 0 of TAC (R60). DIV is `sysclk[15:8]` (R57). -/
structure Timer where
  sysclk : Word
  tima   : Byte
  tma    : Byte
  tac    : BitVec 3
  deriving DecidableEq, Repr

/-- The PPU's states (R71). -/
inductive PpuMode where
  | oamScan | draw | hblank | vblank
  deriving DecidableEq, Repr

/-- An OAM entry (R71, R108). -/
structure Sprite where
  y    : Byte
  x    : Byte
  tile : Byte
  attr : Byte
  deriving DecidableEq, Repr

/-- The two phases of the pixel fetcher (R71). -/
inductive FetchPhase where
  | tile | data
  deriving DecidableEq, Repr

/-- The fetcher sub-state (R71). -/
structure Fetch where
  phase  : FetchPhase
  pdot   : Nat
  fetchX : Byte
  tileNo : Byte
  lo     : Byte
  hi     : Byte
  deriving DecidableEq, Repr

/-- A colour index or a shade, 0 to 3 (R71). -/
abbrev Shade := BitVec 2

/-- The bitmap: 144 rows of 160 shades (R71). -/
abbrev Bitmap := Vector (Vector Shade 160) 144

/-- The video unit: its registers LCDC, SCY, SCX, BGP (R62 to R64, R66) and the state of R71. VRAM and OAM are in the
memory list. -/
structure Ppu where
  lcdc       : Byte
  scy        : Byte
  scx        : Byte
  bgp        : Byte
  ly         : Nat
  dot        : Nat
  mode       : PpuMode
  spriteBuf  : List Sprite
  x          : Nat
  fetch      : Fetch
  discard    : Nat
  bgFifo     : List Shade
  spriteFifo : List Shade
  bitmap     : Bitmap
  deriving DecidableEq, Repr

/-- The kind of a bus access, as a decode fault reports it (R502). -/
inductive Access where
  | read | write
  deriving DecidableEq, Repr

/-- The invariant checks of R572. -/
inductive PpuCheck where
  | fifoOverflow | xOutOfRange | drawInVblank
  deriving DecidableEq, Repr

/-- The fault record of R53 and R501, with the information fields of R502. A step that raises one answers the state
with the record in its field `fault` (R500); `step` answers `Outcome.fault` with it from then on (R193). Each is the
spec's own stop, so each is safe. -/
inductive Fault where
  /-- Code 1, raised by the eleven unassigned opcodes (R456). -/
  | undefinedOpcode (opcode : Byte) (pc : Word)
  /-- Code 2, raised by a bus access to a register-bank address that `REG_MAP` does not assign (R110). -/
  | decodeFault (addr : Word) (access : Access) (pc : Word)
  /-- Code 3, raised by the PPU's checks (R572). No state that meets the model's invariant raises it. -/
  | invariantViolation (check : PpuCheck) (ly dot x fifoLen : Nat)
  /-- Code 4, raised by STOP (R453). -/
  | unmodelledInstruction (opcode : Byte) (pc : Word)
  deriving DecidableEq, Repr

/-- Why the model gives an instruction no meaning. -/
inductive Refusal where
  /-- Raised by an arm of `exec` whose instruction has no meaning yet. Safe. No arm raises it now. -/
  | notModelled (mnemonic : String)
  deriving DecidableEq, Repr

/-- Memory: the bytes of the stores of R70 by bus address, in the canonical form of Machine/Memory.lean. -/
abbrev Memory := List Host.Cell

/-- The machine's state. -/
structure State where
  /-- A, F, B, C, D, E, H, L, SP, PC (R40 to R47). -/
  regs      : Regs
  /-- The interrupt master enable latch (R48). -/
  ime       : Bool
  /-- The delayed enable of EI (R50). -/
  eiPending : Bool
  /-- The CPU waits in HALT (R51). -/
  halted    : Bool
  /-- The next opcode fetch does not advance PC (R52). -/
  haltBug   : Bool
  /-- The fault that ended the run, if any (R53). -/
  fault     : Option Fault
  /-- The shared cycle counter (R54). -/
  cycles    : Nat
  /-- The model's own: PC at the start of the step, the local `opPC` of R183 that faults report (R502; log entry 4). -/
  opPC      : Word
  /-- IE (R55). -/
  ie        : Byte
  /-- IF[4:0] (R56). -/
  intFlag   : BitVec 5
  /-- The timer (R57 to R61). -/
  timer     : Timer
  /-- The video unit (R62 to R66, R71). -/
  ppu       : Ppu
  /-- The opaque audio device (R67, R600). -/
  audio     : Audio
  /-- The ROM window, VRAM, WRAM, OAM and HRAM stores (R70). -/
  mem       : Memory
  /-- The launch parameters `TEST_MODE`, `HALT_BUG` and `REG_MAP` (R9). -/
  params    : Params
  deriving DecidableEq, Repr

/-- The parameter `RESET_STATE` of a launch: the "register/flag/IME record" of R9 and R95, and the device values that D7
and U15 list under the same parameter: IE, IF, the timer's sysclk, TIMA, TMA and TAC, and LCDC, SCY, SCX and BGP. DEDUCED
(log entry 17): R9, R95 and R700 do not name the device values; at the defaults the two readings agree. -/
structure ResetState where
  regs      : Regs
  ime       : Bool
  eiPending : Bool
  halted    : Bool
  haltBug   : Bool
  ie        : Byte
  intFlag   : BitVec 5
  timer     : Timer
  lcdc      : Byte
  scy       : Byte
  scx       : Byte
  bgp       : Byte
  deriving DecidableEq, Repr

/-- The timer at power-on, by default (R97). -/
def Timer.powerOn : Timer := { sysclk := 0xABCC, tima := 0x00, tma := 0x00, tac := 0b000 }

/-- The default `RESET_STATE` (R95, R97, D7). -/
def ResetState.default : ResetState where
  regs      := { a := 0x01, b := 0x00, c := 0x13, d := 0x00, e := 0xD8, h := 0x01, l := 0x4D,
                 flags := { z := true, n := false, h := true, c := true }, sp := 0xFFFE, pc := 0x0100 }
  ime       := false
  eiPending := false
  halted    := false
  haltBug   := false
  ie        := 0x00
  intFlag   := 0b00001
  timer     := Timer.powerOn
  lcdc      := 0x91
  scy       := 0x00
  scx       := 0x00
  bgp       := 0xFC

/-- The fetcher at the start of a line and after power-on (R97, R564). -/
def Fetch.start : Fetch :=
  { phase := .tile, pdot := 0, fetchX := 0, tileNo := 0, lo := 0, hi := 0 }

/-- The video unit at power-on, for the video registers of a launch's `RESET_STATE`: the position, the buffers and the
bitmap are R97's in every launch. -/
def ResetState.ppu (rs : ResetState) : Ppu where
  lcdc       := rs.lcdc
  scy        := rs.scy
  scx        := rs.scx
  bgp        := rs.bgp
  ly         := 0
  dot        := 0
  mode       := .oamScan
  spriteBuf  := []
  x          := 0
  fetch      := Fetch.start
  discard    := 0
  bgFifo     := []
  spriteFifo := []
  bitmap     := Vector.replicate 144 (Vector.replicate 160 0)

/-- The video unit at power-on, by default (R97). -/
def Ppu.powerOn : Ppu := ResetState.default.ppu

/-- The machine right after power-on, for any launch (R700): any `RESET_STATE` (log entry 17), any parameters, and any
contents of the ROM window and the RAM stores (`ROM_IMAGE` and `INIT_MEM`, R96). -/
def State.powerOn (rs : ResetState) (params : Params) (mem : Memory) : State where
  regs      := rs.regs
  ime       := rs.ime
  eiPending := rs.eiPending
  halted    := rs.halted
  haltBug   := rs.haltBug
  fault     := none
  cycles    := 0
  opPC      := rs.regs.pc
  ie        := rs.ie
  intFlag   := rs.intFlag
  timer     := rs.timer
  ppu       := rs.ppu
  audio     := { ticks := 0, accesses := [] }
  mem       := mem
  params    := params

/-- The machine right after power-on with the default parameters of R9 and with nothing listed in memory: the launch
whose `ROM_IMAGE` and `INIT_MEM` hold `Config.unlisted` at every byte (log entry 1). -/
def State.reset : State := State.powerOn ResetState.default Config.params []

end Sys2Proof.Machine
end

