-- ==== Sys2Proof/Machine/Bits.lean ====
section
/-! DEFINITION. Sign extension and the flag byte (R11, R43, R44). -/

namespace Sys2Proof.Machine

/-- `sext_16(v)` (R11). -/
def sext16 (v : Byte) : Word := v.signExtend 16

/-- `zext_16(v)` (R11). -/
def zext16 (v : Byte) : Word := v.setWidth 16

/-- A flag as a number, 0 or 1 (R45). -/
def flagNat (b : Bool) : Nat := if b then 1 else 0

/-- F as a byte: `fZ<<7 | fN<<6 | fH<<5 | fC<<4` (R43). -/
def Flags.toByte (f : Flags) : Byte :=
  BitVec.ofNat 8 (flagNat f.z * 128 + flagNat f.n * 64 + flagNat f.h * 32 + flagNat f.c * 16)

/-- The flags after a write of `v` to F, which stores `v & 0xF0` (R44). -/
def Flags.ofByte (v : Byte) : Flags :=
  { z := v.getLsbD 7, n := v.getLsbD 6, h := v.getLsbD 5, c := v.getLsbD 4 }

end Sys2Proof.Machine
end

