-- ==== Sys2Proof/Machine/Operands.lean ====
section
/-! DEFINITION. Reading and writing registers, pairs and the flag register, and the conditions (R40 to R47, R142 to R145). -/

namespace Sys2Proof.Machine

/-! ## The register file -/

/-- The register of a 3-bit field (R142). -/
def Regs.get (g : Regs) (r : R8) : Byte :=
  match r with
  | .b => g.b
  | .c => g.c
  | .d => g.d
  | .e => g.e
  | .h => g.h
  | .l => g.l
  | .a => g.a

/-- Write a register. -/
def Regs.set (g : Regs) (r : R8) (v : Byte) : Regs :=
  match r with
  | .b => { g with b := v }
  | .c => { g with c := v }
  | .d => { g with d := v }
  | .e => { g with e := v }
  | .h => { g with h := v }
  | .l => { g with l := v }
  | .a => { g with a := v }

/-- The pair of a 2-bit field (R41, R143): the first-named register is the high byte. -/
def Regs.getPair (g : Regs) (rr : R16) : Word :=
  match rr with
  | .bc => ofBytes g.b g.c
  | .de => ofBytes g.d g.e
  | .hl => ofBytes g.h g.l
  | .sp => g.sp

/-- Write a pair: both halves (R41). -/
def Regs.setPair (g : Regs) (rr : R16) (v : Word) : Regs :=
  match rr with
  | .bc => { g with b := hiByte v, c := loByte v }
  | .de => { g with d := hiByte v, e := loByte v }
  | .hl => { g with h := hiByte v, l := loByte v }
  | .sp => { g with sp := v }

/-- The pair of a PUSH (R144): `AF` is `A:F`. -/
def Regs.getStk (g : Regs) (rr : R16Stk) : Word :=
  match rr with
  | .bc => ofBytes g.b g.c
  | .de => ofBytes g.d g.e
  | .hl => ofBytes g.h g.l
  | .af => ofBytes g.a g.flags.toByte

/-- Write the pair of a POP (R144): the low byte of AF goes to F, which drops its low nibble (R44). -/
def Regs.setStk (g : Regs) (rr : R16Stk) (v : Word) : Regs :=
  match rr with
  | .bc => { g with b := hiByte v, c := loByte v }
  | .de => { g with d := hiByte v, e := loByte v }
  | .hl => { g with h := hiByte v, l := loByte v }
  | .af => { g with a := hiByte v, flags := Flags.ofByte (loByte v) }

/-! ## The same in the machine's state -/

/-- A register. -/
def State.r8 (s : State) (r : R8) : Byte := s.regs.get r

/-- Write a register. -/
def State.setR8 (s : State) (r : R8) (v : Byte) : State := { s with regs := s.regs.set r v }

/-- A pair. -/
def State.r16 (s : State) (rr : R16) : Word := s.regs.getPair rr

/-- Write a pair. -/
def State.setR16 (s : State) (rr : R16) (v : Word) : State := { s with regs := s.regs.setPair rr v }

/-- The pair of a PUSH. -/
def State.stk (s : State) (rr : R16Stk) : Word := s.regs.getStk rr

/-- Write the pair of a POP. -/
def State.setStk (s : State) (rr : R16Stk) (v : Word) : State := { s with regs := s.regs.setStk rr v }

/-- The flags. -/
def State.flags (s : State) : Flags := s.regs.flags

/-- Write the flags. -/
def State.setFlags (s : State) (f : Flags) : State := { s with regs := { s.regs with flags := f } }

/-- PC. -/
def State.pc (s : State) : Word := s.regs.pc

/-- Write PC. -/
def State.setPC (s : State) (v : Word) : State := { s with regs := { s.regs with pc := v } }

/-- SP. -/
def State.sp (s : State) : Word := s.regs.sp

/-- Write SP. -/
def State.setSP (s : State) (v : Word) : State := { s with regs := { s.regs with sp := v } }

/-- Write A and the flags together, as an accumulator operation does. -/
def State.setAF (s : State) (r : Byte × Flags) : State := (s.setR8 .a r.1).setFlags r.2

/-- The address `0xFF00 + v` of the page-0xFF forms (R146). -/
def highPage (v : Byte) : Word := 0xFF00#16 ||| zext16 v

/-- A condition on the flags (R145, R410). -/
def Flags.holds (f : Flags) (cc : Cond) : Bool :=
  match cc with
  | .nz => !f.z
  | .z => f.z
  | .nc => !f.c
  | .c => f.c

end Sys2Proof.Machine
end

