-- ==== Sys2Proof/Machine/Flags.lean ====
section
/-! DEFINITION. Every computation of a result and its flags (R291 to R307, R340 to R343, R267, R360 to R372, R390). Sums and
differences are exact natural numbers; a result is narrowed at the end (R11). -/

namespace Sys2Proof.Machine

/-! ## 8-bit arithmetic and logic -/

/-- An addition with an incoming carry, and its flags (R291 to R293). -/
def add8 (a v : Byte) (c : Bool) : Byte × Flags :=
  let sum := a.toNat + v.toNat + flagNat c
  let r := BitVec.ofNat 8 sum
  (r, { z := decide (r = 0), n := false,
        h := decide (a.toNat % 16 + v.toNat % 16 + flagNat c > 0xF), c := decide (sum > 0xFF) })

/-- A subtraction with an incoming borrow, and its flags (R291, R294, R295). -/
def sub8 (a v : Byte) (c : Bool) : Byte × Flags :=
  let r := a - v - BitVec.ofNat 8 (flagNat c)
  (r, { z := decide (r = 0), n := true,
        h := decide (a.toNat % 16 < v.toNat % 16 + flagNat c),
        c := decide (a.toNat < v.toNat + flagNat c) })

/-- AND (R296). -/
def and8 (a v : Byte) : Byte × Flags :=
  (a &&& v, { z := decide (a &&& v = 0), n := false, h := true, c := false })

/-- XOR (R297). -/
def xor8 (a v : Byte) : Byte × Flags :=
  (a ^^^ v, { z := decide (a ^^^ v = 0), n := false, h := false, c := false })

/-- OR (R298). -/
def or8 (a v : Byte) : Byte × Flags :=
  (a ||| v, { z := decide (a ||| v = 0), n := false, h := false, c := false })

/-- CP: the flags of a subtraction, and A as it was (R299). -/
def cp8 (a v : Byte) : Byte × Flags := (a, (sub8 a v false).2)

/-- The accumulator operation of a field `ooo` on A and `v`, with the incoming carry (R290 to R299). -/
def aluResult (op : AluOp) (a v : Byte) (carry : Bool) : Byte × Flags :=
  match op with
  | .add => add8 a v false
  | .adc => add8 a v carry
  | .sub => sub8 a v false
  | .sbc => sub8 a v carry
  | .and => and8 a v
  | .xor => xor8 a v
  | .or => or8 a v
  | .cp => cp8 a v

/-- 8-bit increment: C is kept (R300, R301). -/
def inc8 (old : Byte) (f : Flags) : Byte × Flags :=
  (old + 1, { f with z := decide (old + 1 = 0), n := false, h := decide (old.toNat % 16 = 0xF) })

/-- 8-bit decrement: C is kept (R302, R303). -/
def dec8 (old : Byte) (f : Flags) : Byte × Flags :=
  (old - 1, { f with z := decide (old - 1 = 0), n := true, h := decide (old.toNat % 16 = 0x0) })

/-- Decimal adjust (R304). -/
def daaResult (a : Byte) (f : Flags) : Byte × Flags :=
  let high := !f.n && (f.c || decide (a.toNat > 0x99))
  let low := f.h || (!f.n && decide (a.toNat % 16 > 0x09))
  let r :=
    if f.n then (a - (if f.c then 0x60#8 else 0x00#8)) - (if low then 0x06#8 else 0x00#8)
    else (a + (if high then 0x60#8 else 0x00#8)) + (if low then 0x06#8 else 0x00#8)
  (r, { f with z := decide (r = 0), h := false, c := f.c || high })

/-- CPL (R305). -/
def cplResult (a : Byte) (f : Flags) : Byte × Flags := (a ^^^ 0xFF#8, { f with n := true, h := true })

/-- SCF (R306). -/
def scfFlags (f : Flags) : Flags := { f with n := false, h := false, c := true }

/-- CCF (R307). -/
def ccfFlags (f : Flags) : Flags := { f with n := false, h := false, c := !f.c }

/-! ## 16-bit arithmetic -/

/-- ADD HL,rr: the sum, and the flags with Z kept (R340). -/
def addHlResult (h v : Word) (f : Flags) : Word × Flags :=
  (h + v, { f with n := false, h := decide (h.toNat % 0x1000 + v.toNat % 0x1000 > 0x0FFF),
                   c := decide (h.toNat + v.toNat > 0xFFFF) })

/-- SP plus a signed displacement, with the flags of the unsigned sum of the low bytes (R343, R267). -/
def addSpResult (sp : Word) (e : Byte) : Word × Flags :=
  (sp + sext16 e, { z := false, n := false, h := decide (sp.toNat % 16 + e.toNat % 16 > 0x0F),
                    c := decide (sp.toNat % 256 + e.toNat > 0xFF) })

/-! ## Rotates, shifts and swap -/

/-- The result and the outgoing carry of `Op_y(v)` with the incoming carry `c` (R365 to R372). -/
def rotate (op : RotOp) (v : Byte) (c : Bool) : Byte × Bool :=
  let cin : Byte := BitVec.ofNat 8 (flagNat c)
  match op with
  | .rlc => ((v <<< 1) ||| (v >>> 7), v.getLsbD 7)
  | .rrc => ((v >>> 1) ||| ((v &&& 1) <<< 7), v.getLsbD 0)
  | .rl => ((v <<< 1) ||| cin, v.getLsbD 7)
  | .rr => ((v >>> 1) ||| (cin <<< 7), v.getLsbD 0)
  | .sla => (v <<< 1, v.getLsbD 7)
  | .sra => ((v >>> 1) ||| (v &&& 0x80), v.getLsbD 0)
  | .swap => (((v &&& 0x0F) <<< 4) ||| (v >>> 4), false)
  | .srl => (v >>> 1, v.getLsbD 0)

/-- An operation of the secondary table with its flags (R364). -/
def rotResult (op : RotOp) (v : Byte) (f : Flags) : Byte × Flags :=
  let r := rotate op v f.c
  (r.1, { z := decide (r.1 = 0), n := false, h := false, c := r.2 })

/-- An accumulator rotate, which clears Z (R360 to R363). -/
def rotAResult (op : RotOp) (v : Byte) (f : Flags) : Byte × Flags :=
  let r := rotate op v f.c
  (r.1, { z := false, n := false, h := false, c := r.2 })

/-! ## Bit operations -/

/-- BIT: the flags, with C kept (R390). -/
def bitFlags (b : Fin 8) (v : Byte) (f : Flags) : Flags :=
  { f with z := !v.getLsbD b.val, n := false, h := true }

/-- RES (R391). -/
def resBit (b : Fin 8) (v : Byte) : Byte := v &&& ~~~(1#8 <<< b.val)

/-- SET (R392). -/
def setBit (b : Fin 8) (v : Byte) : Byte := v ||| (1#8 <<< b.val)

end Sys2Proof.Machine
end

