-- ==== Sys2Proof/Machine/Memory.lean ====
section
/-! DEFINITION. The memory list: which addresses are stores (R70, R103 to R111), reading and writing one byte, the
canonical form, and the memory of a launch (R96, R700). -/

namespace Sys2Proof.Machine

/-- An address of the ROM window (R103). -/
def isRom (a : Nat) : Bool := decide (a ≤ 0x7FFF)

/-- An address of a RAM store: VRAM (R104), WRAM (R106), OAM (R108) or HRAM (R111). -/
def isRam (a : Nat) : Bool :=
  decide (0x8000 ≤ a ∧ a ≤ 0x9FFF) || decide (0xC000 ≤ a ∧ a ≤ 0xDFFF) ||
  decide (0xFE00 ≤ a ∧ a ≤ 0xFE9F) || decide (0xFF80 ≤ a ∧ a ≤ 0xFFFE)

/-- An address whose byte the memory list holds (R70). -/
def isStore (a : Nat) : Bool := isRom a || isRam a

/-- The byte at an address. -/
def Memory.read (m : Memory) (a : Nat) : Byte :=
  match m with
  | [] => Config.unlisted
  | (k, v) :: rest => if a = k then v else Memory.read rest a

/-- A cell in front of a list, left out where it says what an unlisted address reads as. -/
def Memory.put (a : Nat) (v : Byte) (m : Memory) : Memory :=
  if v = Config.unlisted then m else (a, v) :: m

/-- Store a byte, keeping the canonical form. -/
def Memory.write (m : Memory) (a : Nat) (v : Byte) : Memory :=
  match m with
  | [] => Memory.put a v []
  | (k, w) :: rest =>
    if a < k then Memory.put a v ((k, w) :: rest)
    else if a = k then Memory.put a v rest
    else (k, w) :: Memory.write rest a v

/-- The addresses rise strictly from a lower bound on, and no cell says what an unlisted address reads as. -/
def Memory.wfFrom (lo : Nat) (m : Memory) : Bool :=
  match m with
  | [] => true
  | (k, v) :: rest => decide (lo ≤ k) && decide (v ≠ Config.unlisted) && Memory.wfFrom (k + 1) rest

/-- The canonical form: equal memories are equal lists. -/
def Memory.wf (m : Memory) : Bool := Memory.wfFrom 0 m

/-- Every listed address is an address of a store. -/
def Memory.onlyStores (m : Memory) : Bool := m.all fun cell => isStore cell.1

/-- The cells of the addresses from `a` on, `n` of them, in canonical form: a store's byte is what `f` gives. -/
def Memory.image (f : Nat → Byte) (a n : Nat) : Memory :=
  match n with
  | 0 => []
  | n + 1 =>
    if isStore a then Memory.put a (f a) (Memory.image f (a + 1) n) else Memory.image f (a + 1) n

/-- The memory of a launch (R700 steps 1 and 2): the ROM window holds `rom`, the RAM stores hold `init`. -/
def Memory.launch (rom init : Nat → Byte) : Memory :=
  Memory.image (fun a => if isRom a then rom a else init a) 0 0x10000

end Sys2Proof.Machine
end

