-- ==== Sys2Proof/Machine/Ppu.lean ====
section
/-! DEFINITION. The video unit (60_exceptions R550 to R576): four dots per M-cycle, with the fetcher, the background FIFO
and the bitmap. The PPU reads VRAM and OAM in the memory list directly, not through the bus (R100, R566). -/

namespace Sys2Proof.Machine

/-- The PPU in the middle of a tick: its state, whether a VBlank was requested, and the failed check that stopped it. -/
structure PpuRun where
  ppu    : Ppu
  vblank : Bool
  fault  : Option Fault
  deriving DecidableEq, Repr

/-- The fault of a failed check (R502, R572). -/
def Ppu.violation (p : Ppu) (check : PpuCheck) : Fault :=
  .invariantViolation check p.ly p.dot p.x p.bgFifo.length

/-! ## OAM scan -/

/-- OAM entry `i` (R108, R563). -/
def oamEntry (m : Memory) (i : Nat) : Sprite :=
  { y := m.read (0xFE00 + 4 * i), x := m.read (0xFE00 + 4 * i + 1),
    tile := m.read (0xFE00 + 4 * i + 2), attr := m.read (0xFE00 + 4 * i + 3) }

/-- The height of a sprite: LCDC bit 2 (R62, R563). -/
def Ppu.spriteHeight (p : Ppu) : Nat := if p.lcdc.getLsbD 2 then 16 else 8

/-- The OAM scan keeps an entry that meets the line while the buffer has room (R563). -/
def Ppu.keeps (p : Ppu) (e : Sprite) : Bool :=
  decide (0 < e.x.toNat) && decide (e.y.toNat ≤ p.ly + 16) &&
  decide (p.ly + 16 < e.y.toNat + p.spriteHeight) && decide (p.spriteBuf.length < 10)

/-- `DrawInit()` (R564). -/
def Ppu.drawInit (p : Ppu) : Ppu :=
  { p with x := 0, bgFifo := [], fetch := Fetch.start, discard := p.scx.toNat % 8 }

/-- The OAM check of an even dot (R563). -/
def Ppu.scanEntry (m : Memory) (p : Ppu) : Ppu :=
  if p.dot % 2 = 0 then
    { p with spriteBuf :=
        if p.keeps (oamEntry m (p.dot / 2)) then p.spriteBuf ++ [oamEntry m (p.dot / 2)]
        else p.spriteBuf }
  else p

/-- `OamScanDot()` (R563). -/
def Ppu.oamScanDot (m : Memory) (p : Ppu) : Ppu :=
  let p := p.scanEntry m
  if p.dot = 79 then { p with mode := .draw }.drawInit else p

/-! ## The fetcher -/

/-- `MapAddr()` (R566). -/
def Ppu.mapAddr (p : Ppu) : Nat :=
  let base := if p.lcdc.getLsbD 3 then 0x9C00 else 0x9800
  let tx := (p.scx.toNat / 8 + p.fetch.fetchX.toNat) % 32
  let ty := ((p.ly + p.scy.toNat) % 256) / 8
  base + 32 * ty + tx

/-- `TileAddr()` (R566). -/
def Ppu.tileAddr (p : Ppu) : Nat :=
  let row := (p.ly + p.scy.toNat) % 8
  if p.lcdc.getLsbD 4 then 0x8000 + 16 * p.fetch.tileNo.toNat + 2 * row
  else ((0x9000 : Int) + 16 * p.fetch.tileNo.toInt + 2 * row).toNat

/-- Pixel `i` of the fetched row, 0 the leftmost: the high plane gives bit 1 (R567). -/
def Fetch.pixel (f : Fetch) (i : Nat) : Shade :=
  BitVec.ofNat 2 ((if f.hi.getLsbD (7 - i) then 2 else 0) + (if f.lo.getLsbD (7 - i) then 1 else 0))

/-- Append pixels to the background FIFO, checking its bound before each (R567). -/
def Ppu.pushPixels (pixels : List Shade) (p : Ppu) : Ppu × Option Fault :=
  match pixels with
  | [] => (p, none)
  | c :: rest =>
    if p.bgFifo.length = 16 then (p, some (p.violation .fifoOverflow))
    else Ppu.pushPixels rest { p with bgFifo := p.bgFifo ++ [c] }

/-- `PushRow()` (R567). -/
def Ppu.pushRow (p : Ppu) : Ppu × Option Fault :=
  p.pushPixels ((List.range 8).map p.fetch.pixel)

/-- The TILE phase of the fetcher (R566). -/
def Ppu.fetchTile (m : Memory) (p : Ppu) : Ppu :=
  if p.fetch.pdot + 1 = 2 then
    { p with fetch := { p.fetch with tileNo := m.read p.mapAddr, phase := .data, pdot := 0 } }
  else { p with fetch := { p.fetch with pdot := p.fetch.pdot + 1 } }

/-- The four reading dots of the DATA phase (R566). -/
def Ppu.fetchPlanes (m : Memory) (p : Ppu) : Ppu :=
  if p.fetch.pdot < 4 then
    { p with fetch :=
        { p.fetch with
          pdot := p.fetch.pdot + 1
          lo := if p.fetch.pdot + 1 = 2 then m.read p.tileAddr else p.fetch.lo
          hi := if p.fetch.pdot + 1 = 4 then m.read (p.tileAddr + 1) else p.fetch.hi } }
  else p

/-- The push that ends the DATA phase, once at most 8 pixels are queued (R566). -/
def Ppu.fetchPush (p : Ppu) : Ppu × Option Fault :=
  if p.fetch.pdot = 4 ∧ p.bgFifo.length ≤ 8 then
    match p.pushRow with
    | (q, none) =>
      ({ q with fetch := { q.fetch with fetchX := q.fetch.fetchX + 1, phase := .tile, pdot := 0 } }, none)
    | (q, some f) => (q, some f)
  else (p, none)

/-- `FetcherStep()` (R566). -/
def Ppu.fetcherStep (m : Memory) (p : Ppu) : Ppu × Option Fault :=
  match p.fetch.phase with
  | .tile => (p.fetchTile m, none)
  | .data => (p.fetchPlanes m).fetchPush

/-! ## The emitter -/

/-- The shade of a colour index through BGP (R66, R568). -/
def Ppu.shade (p : Ppu) (c : Shade) : Shade := (p.bgp >>> (2 * c.toNat)).setWidth 2

/-- `bitmap[ly][x] <- v`. -/
def Bitmap.put (bm : Bitmap) (row col : Nat) (v : Shade) : Bitmap :=
  match bm[row]? with
  | some line => bm.setIfInBounds row (line.setIfInBounds col v)
  | none => bm

/-- `EmitPixel()` (R568). -/
def Ppu.emitPixel (p : Ppu) : Ppu × Option Fault :=
  match p.bgFifo with
  | [] => (p, none)
  | c :: rest =>
    let q := { p with bgFifo := rest }
    if 0 < p.discard then ({ q with discard := p.discard - 1 }, none)
    else if 160 ≤ p.x then (q, some (q.violation .xOutOfRange))
    else
      ({ q with bitmap := Bitmap.put p.bitmap p.ly p.x (if p.lcdc.getLsbD 0 then p.shade c else 0)
                x := p.x + 1 }, none)

/-- The emitter runs when 8 or more pixels are queued (R565). -/
def Ppu.emitIfReady (p : Ppu) : Ppu × Option Fault :=
  if 8 ≤ p.bgFifo.length then p.emitPixel else (p, none)

/-- HBLANK begins in the dot where `x` reaches 160 (R565, R569). -/
def Ppu.endDraw (p : Ppu) : Ppu := if p.x = 160 then { p with mode := .hblank } else p

/-- `DrawDot()` (R565). -/
def Ppu.drawDot (m : Memory) (p : Ppu) : Ppu × Option Fault :=
  if 144 ≤ p.ly then (p, some (p.violation .drawInVblank))
  else
    match p.fetcherStep m with
    | (q, some f) => (q, some f)
    | (q, none) =>
      match q.emitIfReady with
      | (r, some f) => (r, some f)
      | (r, none) => (r.endDraw, none)

/-! ## Dots, lines and ticks -/

/-- `StartLine()` (R562). -/
def Ppu.startLine (p : Ppu) : Ppu := { p with mode := .oamScan, spriteBuf := [] }

/-- The end of a scanline: the next line, and whether it requests a VBlank (R562, R570). -/
def Ppu.nextLine (p : Ppu) : Ppu × Bool :=
  let q := { p with dot := 0, ly := p.ly + 1 }
  if q.ly = 144 then ({ q with mode := .vblank }, true)
  else if q.ly = 154 then ({ q with ly := 0 }.startLine, false)
  else if q.ly < 144 then (q.startLine, false)
  else (q, false)

/-- The line position after a dot (R562). -/
def Ppu.advance (p : Ppu) : Ppu × Bool :=
  if p.dot + 1 = 456 then p.nextLine else ({ p with dot := p.dot + 1 }, false)

/-- The work of a dot in the mode it runs in (R562). -/
def Ppu.modeDot (m : Memory) (p : Ppu) : Ppu × Option Fault :=
  match p.mode with
  | .oamScan => (p.oamScanDot m, none)
  | .draw => p.drawDot m
  | .hblank => (p, none)
  | .vblank => (p, none)

/-- `PpuDot()` (R562). After a failed check nothing more happens (R503). -/
def PpuRun.dot (m : Memory) (r : PpuRun) : PpuRun :=
  match r.fault with
  | some _ => r
  | none =>
    match r.ppu.modeDot m with
    | (p, some f) => { r with ppu := p, fault := some f }
    | (p, none) => { ppu := p.advance.1, vblank := r.vblank || p.advance.2, fault := none }

/-- `n` dots. -/
def PpuRun.dots (m : Memory) (n : Nat) (r : PpuRun) : PpuRun :=
  match n with
  | 0 => r
  | n + 1 => PpuRun.dots m n (r.dot m)

/-- `PpuTick()`: four dots while the LCD is on (R560, R561). -/
def Ppu.tick (m : Memory) (p : Ppu) : PpuRun :=
  if p.lcdc.getLsbD 7 then PpuRun.dots m 4 { ppu := p, vblank := false, fault := none }
  else { ppu := p, vblank := false, fault := none }

/-- The position at which the LCD stands while it is off and from which it starts; the bitmap is kept (R561). -/
def Ppu.restart (p : Ppu) : Ppu :=
  { p with ly := 0, dot := 0, mode := .oamScan, spriteBuf := [], bgFifo := [], x := 0, discard := 0,
           fetch := Fetch.start }

/-- A write to LCDC: a change of bit 7, either way, puts the PPU at that position (R561). -/
def Ppu.writeLcdc (p : Ppu) (v : Byte) : Ppu :=
  if p.lcdc.getLsbD 7 = v.getLsbD 7 then { p with lcdc := v } else { p.restart with lcdc := v }

/-- What a read of LY returns (R65). -/
def Ppu.readLy (p : Ppu) : Byte := BitVec.ofNat 8 p.ly

end Sys2Proof.Machine
end

