-- ==== Sys2Proof/Machine/Timer.lean ====
section
/-! DEFINITION. The timer peripheral (60_exceptions R530 to R536). Every operation answers the timer and whether TIMA
overflowed, which requests the Timer interrupt (R533). -/

namespace Sys2Proof.Machine

/-- The `sysclk` bit that `TAC.sel` selects (R60, R530). -/
def Timer.selectedBit (t : Timer) : Nat :=
  match (t.tac.setWidth 2).toNat with
  | 0 => 9
  | 1 => 3
  | 2 => 5
  | _ => 7

/-- `TimerSignal()` (R530). -/
def Timer.signal (t : Timer) : Bool := t.tac.getLsbD 2 && t.sysclk.getLsbD t.selectedBit

/-- `IncTIMA()` (R532, R533). -/
def Timer.inc (t : Timer) : Timer × Bool :=
  if t.tima = 0xFF then ({ t with tima := t.tma }, true) else ({ t with tima := t.tima + 1 }, false)

/-- Count TIMA if the signal fell from `before` to its value now. -/
def Timer.countEdge (before : Bool) (t : Timer) : Timer × Bool :=
  if before && !t.signal then t.inc else (t, false)

/-- `TimerTick()`: one M-cycle (R530). -/
def Timer.tick (t : Timer) : Timer × Bool :=
  Timer.countEdge t.signal { t with sysclk := t.sysclk + 4 }

/-- A write of any value to DIV (R531). -/
def Timer.writeDiv (t : Timer) : Timer × Bool := Timer.countEdge t.signal { t with sysclk := 0 }

/-- A write to TAC (R535). -/
def Timer.writeTac (t : Timer) (v : Byte) : Timer × Bool :=
  Timer.countEdge t.signal { t with tac := v.setWidth 3 }

/-- What a read of DIV returns (R57). -/
def Timer.div (t : Timer) : Byte := t.sysclk.extractLsb' 8 8

/-- What a read of TAC returns: bits 7 to 3 read as 1 (R60). -/
def Timer.readTac (t : Timer) : Byte := 0xF8#8 ||| t.tac.setWidth 8

end Sys2Proof.Machine
end

