-- ==== Sys2Proof/Machine/Ops.lean ====
section
/-! DEFINITION. The shared operations of a step: faults, the bus cycle with its tick, the address map, fetching, the stack,
and taking and leaving an interrupt (20_memory, 40_dispatch, 60_exceptions). -/

namespace Sys2Proof.Machine

/-- What an instruction's meaning answers. -/
abbrev Result := Host.Outcome State Fault Refusal

/-- The result of an operation inside a step: a value and the state after it, or the state in which a fault stopped the
step (R193: effects already made stay). -/
inductive Res (α : Type) where
  | ok (v : α) (s : State)
  | stop (s : State)
  deriving Repr

/-- Go on with `k` unless a fault has stopped the step (R193). -/
def Res.bind {α β : Type} (r : Res α) (k : α → State → Res β) : Res β :=
  match r with
  | .ok v s => k v s
  | .stop s => .stop s

/-- The state an operation ends in, stopped or not. -/
def Res.state {α : Type} (r : Res α) : State :=
  match r with
  | .ok _ s => s
  | .stop s => s

/-- The end of an instruction: a next state. A fault is in its field `fault` (R500; log entry 3). -/
def Res.finish (r : Res Unit) : Result := .next r.state

/-- `raise Fault(kind, info)` (R500): record the fault and stop the step here. -/
def raise {α : Type} (f : Fault) (s : State) : Res α := .stop { s with fault := some f }

/-! ## Interrupt requests (R505 to R509) -/

/-- Set IF[0], the VBlank request (R570). -/
def requestVBlank (s : State) : State := { s with intFlag := s.intFlag ||| 0b00001 }

/-- Set IF[2], the Timer request (R533). -/
def requestTimer (s : State) : State := { s with intFlag := s.intFlag ||| 0b00100 }

/-- The sources that are both requested and enabled (R507). -/
def State.pendingBits (s : State) : BitVec 5 := s.ie.setWidth 5 &&& s.intFlag

/-- `Pending()` (R507). -/
def State.pending (s : State) : Bool := decide (s.pendingBits ≠ 0)

/-- The lowest-numbered set bit (R509). -/
def lowestBit (v : BitVec 5) : Fin 5 :=
  if v.getLsbD 0 then 0
  else if v.getLsbD 1 then 1
  else if v.getLsbD 2 then 2
  else if v.getLsbD 3 then 3
  else 4

/-- The vector of source `k`: 0x0040 + 8k (R505, R510). -/
def interruptVector (k : Fin 5) : Word := BitVec.ofNat 16 (0x0040 + 8 * k.val)

/-! ## The tick (R101, R102) -/

/-- Put back the timer after one of its operations, with its request (R533). -/
def applyTimer (r : Timer × Bool) (s : State) : State :=
  if r.2 then requestTimer { s with timer := r.1 } else { s with timer := r.1 }

/-- `TimerTick()` in the machine (R530). -/
def timerTick (s : State) : State := applyTimer s.timer.tick s

/-- `AUDIO.tick()` (R600): the device has been ticked once more. -/
def audioTick (s : State) : State := { s with audio := { s.audio with ticks := s.audio.ticks + 1 } }

/-- Put back the PPU after a tick, with its request (R570). -/
def applyPpu (r : PpuRun) (s : State) : State :=
  if r.vblank then requestVBlank { s with ppu := r.ppu } else { s with ppu := r.ppu }

/-- `PpuTick()` in the machine (R560, R572). -/
def ppuTick (s : State) : Res Unit :=
  let r := s.ppu.tick s.mem
  match r.fault with
  | none => .ok () (applyPpu r s)
  | some f => raise f (applyPpu r s)

/-- `BusTick()` (R101): the clock, then the timer, the audio device and the PPU, in that order. -/
def busTick (s : State) : Res Unit :=
  ppuTick (audioTick (timerTick { s with cycles := s.cycles + 1 }))

/-- `Tick()`: an internal cycle (R102). -/
def tick (s : State) : Res Unit := busTick s

/-! ## The address map (R103 to R114) -/

/-- The rows of the address map. -/
inductive Region where
  | rom | vram | openBus | wram | prohibited | oam | regBank | hram | ie
  deriving DecidableEq, Repr

/-- The row of an address (the table of 20_memory section 2; R114). -/
def regionOf (a : Word) : Region :=
  let n := a.toNat
  if n ≤ 0x7FFF then .rom
  else if n ≤ 0x9FFF then .vram
  else if n ≤ 0xBFFF then .openBus
  else if n ≤ 0xDFFF then .wram
  else if n ≤ 0xFDFF then .prohibited
  else if n ≤ 0xFE9F then .oam
  else if n ≤ 0xFEFF then .prohibited
  else if n ≤ 0xFF7F then .regBank
  else if n ≤ 0xFFFE then .hram
  else .ie

/-- The register that a map gives an address (R109): that of the first row that holds it. -/
def lookupReg (map : List RegRow) (a : Nat) : Option BusReg :=
  match map with
  | [] => none
  | row :: rest => if row.lo ≤ a ∧ a ≤ row.hi then some row.reg else lookupReg rest a

/-- The register at an address of the register bank, if `REG_MAP` assigns one. -/
def State.regAt (s : State) (a : Word) : Option BusReg := lookupReg s.params.regMap a.toNat

/-- The access decodes to a row that does not fault (R110, R114). -/
def State.accessible (s : State) (a : Word) : Bool :=
  match regionOf a with
  | .regBank => (s.regAt a).isSome
  | _ => true

/-- What a read of a register returns (R109). -/
def readReg (r : BusReg) (a : Word) (s : State) : Byte :=
  match r with
  | .div => s.timer.div
  | .tima => s.timer.tima
  | .tma => s.timer.tma
  | .tac => s.timer.readTac
  | .intFlag => 0xE0#8 ||| s.intFlag.setWidth 8
  | .audio => Config.audioRead s.audio a
  | .lcdc => s.ppu.lcdc
  | .scy => s.ppu.scy
  | .scx => s.ppu.scx
  | .ly => s.ppu.readLy
  | .bgp => s.ppu.bgp

/-- An access that the audio device is shown (R600). -/
def audioAccess (a : Word) (w : Option Byte) (s : State) : State :=
  { s with audio := { s.audio with accesses := ⟨s.audio.ticks, a, w⟩ :: s.audio.accesses } }

/-- What a write to a register does (R109, R118). -/
def writeReg (r : BusReg) (a : Word) (v : Byte) (s : State) : State :=
  match r with
  | .div => applyTimer s.timer.writeDiv s
  | .tima => { s with timer := { s.timer with tima := v } }
  | .tma => { s with timer := { s.timer with tma := v } }
  | .tac => applyTimer (s.timer.writeTac v) s
  | .intFlag => { s with intFlag := v.setWidth 5 }
  | .audio => audioAccess a (some v) s
  | .lcdc => { s with ppu := s.ppu.writeLcdc v }
  | .scy => { s with ppu := { s.ppu with scy := v } }
  | .scx => { s with ppu := { s.ppu with scx := v } }
  | .ly => s
  | .bgp => { s with ppu := { s.ppu with bgp := v } }

/-- Store a byte in a store of R70. -/
def storeByte (a : Word) (v : Byte) (s : State) : State := { s with mem := s.mem.write a.toNat v }

/-- The byte that a read of an accessible address returns (R103 to R113). -/
def State.busValue (s : State) (a : Word) : Byte :=
  match regionOf a with
  | .rom => s.mem.read a.toNat
  | .vram => s.mem.read a.toNat
  | .openBus => 0xFF
  | .wram => s.mem.read a.toNat
  | .prohibited => 0xFF
  | .oam => s.mem.read a.toNat
  | .regBank =>
    match s.regAt a with
    | some r => readReg r a s
    | none => 0xFF
  | .hram => s.mem.read a.toNat
  | .ie => s.ie

/-- The state after a read of an accessible address: only the audio device is shown anything (R118). -/
def State.noteRead (s : State) (a : Word) : State :=
  match regionOf a, s.regAt a with
  | .regBank, some .audio => audioAccess a none s
  | _, _ => s

/-- The state after a write of an accessible address (R103 to R113). -/
def State.busStore (s : State) (a : Word) (v : Byte) : State :=
  match regionOf a with
  | .rom => if s.params.testMode then storeByte a v s else s
  | .vram => storeByte a v s
  | .openBus => s
  | .wram => storeByte a v s
  | .prohibited => s
  | .oam => storeByte a v s
  | .regBank =>
    match s.regAt a with
    | some r => writeReg r a v s
    | none => s
  | .hram => storeByte a v s
  | .ie => { s with ie := v }

/-- `Decode(addr).read()` (R101, R110). -/
def decodeRead (a : Word) (s : State) : Res Byte :=
  if s.accessible a then .ok (s.busValue a) (s.noteRead a)
  else raise (.decodeFault a .read s.opPC) s

/-- `Decode(addr).write(v)` (R101, R110). -/
def decodeWrite (a : Word) (v : Byte) (s : State) : Res Unit :=
  if s.accessible a then .ok () (s.busStore a v)
  else raise (.decodeFault a .write s.opPC) s

/-- `MemRead(addr, 1)`: one bus read cycle, ticking first (R101). -/
def memRead (a : Word) (s : State) : Res Byte := (busTick s).bind fun _ s => decodeRead a s

/-- `MemWrite(addr, 1, v)`: one bus write cycle, ticking first (R101). -/
def memWrite (a : Word) (v : Byte) (s : State) : Res Unit := (busTick s).bind fun _ s => decodeWrite a v s

/-! ## Fetching (R184 to R186) -/

/-- `Fetch8()` (R184). -/
def fetch8 (s : State) : Res Byte := (memRead s.pc s).bind fun v s => .ok v (s.setPC (s.pc + 1))

/-- PC after an opcode fetch: the halt bug keeps it once (R186). -/
def afterOpcodeRead (s : State) : State :=
  if s.haltBug then { s with haltBug := false } else s.setPC (s.pc + 1)

/-- `FetchOpcode()` (R186). -/
def fetchOpcode (s : State) : Res Byte := (memRead s.pc s).bind fun op s => .ok op (afterOpcodeRead s)

/-- Fetch the instruction at PC: the opcode byte, then the bytes of its format in order (R140, R183 to R188). A handler
of an instruction with an immediate begins with these fetches, and so does the escape entry. -/
def fetchInstr (s : State) : Res Instr :=
  (fetchOpcode s).bind fun op s =>
    match instrLength op with
    | 1 => .ok (assemble op 0 0) s
    | 2 => (fetch8 s).bind fun b1 s => .ok (assemble op b1 0) s
    | _ => (fetch8 s).bind fun b1 s => (fetch8 s).bind fun b2 s => .ok (assemble op b1 b2) s

/-! ## The stack (R260) -/

/-- `PushByte(v)` (R260): SP moves before the write, so a decode fault on a push's second write leaves SP moved by 2, as
R416 and the vector V60-12 have it, where 90_conflicts C6 remarks 1. DEDUCED (log entry 16). -/
def pushByte (v : Byte) (s : State) : Res Unit := memWrite (s.sp - 1) v (s.setSP (s.sp - 1))

/-- `PopByte()` (R260). -/
def popByte (s : State) : Res Byte := (memRead s.sp s).bind fun v s => .ok v (s.setSP (s.sp + 1))

/-- Push a 16-bit value, high byte first (R260). -/
def pushWord (v : Word) (s : State) : Res Unit :=
  (pushByte (hiByte v) s).bind fun _ s => pushByte (loByte v) s

/-- Pop a 16-bit value, low byte first (R260). -/
def popWord (s : State) : Res Word :=
  (popByte s).bind fun lo s => (popByte s).bind fun hi s => .ok (ofBytes hi lo) s

/-! ## Taking an interrupt, and the return from one (R510, R511, R420) -/

/-- The source that the interrupt check chooses (R509, R510). -/
def State.chosenSource (s : State) : Fin 5 := lowestBit s.pendingBits

/-- The return address of a dispatch: under the halt bug the address of the HALT (R452, R510). -/
def State.returnAddress (s : State) : Word := if s.haltBug then s.pc - 1 else s.pc

/-- The changes a dispatch makes at its start (R511). -/
def acceptInterrupt (s : State) : State :=
  { s with intFlag := s.intFlag &&& ~~~(1#5 <<< s.chosenSource.val),
           ime := false, eiPending := false, halted := false, haltBug := false }

/-- `ServiceInterrupt()` (R510): two internal cycles, the two pushes, one internal cycle, then the vector. -/
def serviceInterrupt (s : State) : Res Unit :=
  (tick (acceptInterrupt s)).bind fun _ t =>
  (tick t).bind fun _ t =>
  (pushWord s.returnAddress t).bind fun _ t =>
  (tick t).bind fun _ t => .ok () (t.setPC (interruptVector s.chosenSource))

/-- The pops, the internal cycle and the jump of RET and RETI (R418, R420). -/
def returnToCaller (s : State) : Res Unit :=
  (popWord s).bind fun target s => (tick s).bind fun _ s => .ok () (s.setPC target)

/-- The return from an interrupt handler: IME is set at once (R420). -/
def returnFromInterrupt (s : State) : Res Unit :=
  (returnToCaller s).bind fun _ s => .ok () { s with ime := true }

/-! ## The parts of a step (R180 to R183, R190) -/

/-- The start of a step: PC is kept for the faults of the step (R502). -/
def beginStep (s : State) : State := { s with opPC := s.pc }

/-- The step is an interrupt dispatch (R181, R508). -/
def State.acceptsInterrupt (s : State) : Bool := s.ime && s.pending

/-- The step is a halted idle cycle (R182). -/
def State.idles (s : State) : Bool := s.halted && !s.pending

/-- A halted CPU with a pending request wakes and goes on in the same step (R182). -/
def wake (s : State) : State := { s with halted := false }

/-- The end of an instruction: a delayed EI takes effect if it was pending when the instruction began (`applyEi`) and
still is (R183, R190). A fault has ended the step before this (R193). -/
def applyDelayedEi (applyEi : Bool) (s : State) : State :=
  if s.fault.isNone && applyEi && s.eiPending then { s with ime := true, eiPending := false } else s

/-- What a step makes of an instruction's answer. -/
def endInstruction (applyEi : Bool) (r : Result) : Result :=
  match r with
  | .next s => .next (applyDelayedEi applyEi s)
  | .fault f => .fault f
  | .refused e => .refused e

/-! ## Placing an instruction (R196, R700, R703; log entry 9) -/

/-- The three bytes from PC on lie in stores. -/
def State.pcInStores (s : State) : Bool :=
  isStore s.pc.toNat && isStore (s.pc + 1).toNat && isStore (s.pc + 2).toNat

/-- A state whose next step fetches an instruction at PC: no fault, no dispatch, no halted wait, no halt bug, and PC in
the stores (0x0100 where it was not). -/
def readyToFetch (s : State) : State :=
  let t := { s with fault := none, halted := false, haltBug := false, ime := s.ime && !s.pending }
  if t.pcInStores then t else t.setPC 0x0100

/-- The bytes of an instruction of the opcode table, with zeros up to the longest instruction. -/
def instrBytes (nbits w : Nat) : List Byte := (tableBytes nbits w ++ [0, 0, 0]).take 3

/-- Put bytes into memory from PC on, as the harness does: no tick, no side effect (R196). -/
def placeBytes (bytes : List Byte) (s : State) : State :=
  let go := bytes.foldl (fun (r : Memory × Word) b => (r.1.write r.2.toNat b, r.2 + 1)) (s.mem, s.pc)
  { s with mem := go.1 }

end Sys2Proof.Machine
end

