-- ==== Sys2Proof/Machine/Alu16.lean ====
section
/-! DEFINITION. 16-bit arithmetic (44_alu16 R340 to R343). Each result takes one internal cycle, ADD SP,e two. The shared operations stand first, then the meaning of each instruction. -/

namespace Sys2Proof.Machine

/-- ADD HL,rr (R340). -/
def addHl (rr : R16) (s : State) : Res Unit :=
  (tick s).bind fun _ t =>
    .ok () ((t.setR16 .hl (addHlResult (s.r16 .hl) (s.r16 rr) s.flags).1).setFlags
      (addHlResult (s.r16 .hl) (s.r16 rr) s.flags).2)

/-- INC rr: no flags (R341). -/
def incPair (rr : R16) (s : State) : Res Unit := (tick s).bind fun _ t => .ok () (t.setR16 rr (s.r16 rr + 1))

/-- DEC rr: no flags (R342). -/
def decPair (rr : R16) (s : State) : Res Unit := (tick s).bind fun _ t => .ok () (t.setR16 rr (s.r16 rr - 1))

/-- ADD SP,e (R343). -/
def addSpE (e : Byte) (s : State) : Res Unit :=
  (tick s).bind fun _ t => (tick t).bind fun _ t =>
    .ok () ((t.setSP (addSpResult s.sp e).1).setFlags (addSpResult s.sp e).2)

/-! ## The meanings -/

/-- INC BC (R341). -/
def execInc_BC (s : State) : Result := (incPair .bc s).finish

/-- ADD HL,BC (R340). -/
def execAdd_HL_BC (s : State) : Result := (addHl .bc s).finish

/-- DEC BC (R342). -/
def execDec_BC (s : State) : Result := (decPair .bc s).finish

/-- INC DE (R341). -/
def execInc_DE (s : State) : Result := (incPair .de s).finish

/-- ADD HL,DE (R340). -/
def execAdd_HL_DE (s : State) : Result := (addHl .de s).finish

/-- DEC DE (R342). -/
def execDec_DE (s : State) : Result := (decPair .de s).finish

/-- INC HL (R341). -/
def execInc_HL (s : State) : Result := (incPair .hl s).finish

/-- ADD HL,HL (R340). -/
def execAdd_HL_HL (s : State) : Result := (addHl .hl s).finish

/-- DEC HL (R342). -/
def execDec_HL (s : State) : Result := (decPair .hl s).finish

/-- INC SP (R341). -/
def execInc_SP (s : State) : Result := (incPair .sp s).finish

/-- ADD HL,SP (R340). -/
def execAdd_HL_SP (s : State) : Result := (addHl .sp s).finish

/-- DEC SP (R342). -/
def execDec_SP (s : State) : Result := (decPair .sp s).finish

/-- ADD SP,e (R343). -/
def execAdd_SP_e (e : Byte) (s : State) : Result := (addSpE e s).finish

end Sys2Proof.Machine
end

