-- ==== Sys2Proof/Machine/Control.lean ====
section
/-! DEFINITION. Jumps, calls, returns and restarts (47_control R410 to R421). PC is already the address after the
instruction. No control transfer writes a flag. The shared operations stand first, then the meaning of each instruction. -/

namespace Sys2Proof.Machine

/-- An internal cycle, then a jump (R411, R412). -/
def jumpTo (target : Word) (s : State) : Res Unit := (tick s).bind fun _ t => .ok () (t.setPC target)

/-- Do `k` if the condition holds (R410). -/
def onCond (cc : Cond) (k : State → Res Unit) (s : State) : Res Unit :=
  if s.flags.holds cc then k s else .ok () s

/-- JP nn (R411). -/
def jp (nn : Word) (s : State) : Res Unit := jumpTo nn s

/-- JP cc,nn (R412). -/
def jpCond (cc : Cond) (nn : Word) (s : State) : Res Unit := onCond cc (jumpTo nn) s

/-- JP HL (R413). -/
def jpHl (s : State) : Res Unit := .ok () (s.setPC (s.r16 .hl))

/-- JR e (R414). -/
def jr (e : Byte) (s : State) : Res Unit := jumpTo (s.pc + sext16 e) s

/-- JR cc,e (R415). -/
def jrCond (cc : Cond) (e : Byte) (s : State) : Res Unit := onCond cc (jr e) s

/-- An internal cycle, the return address pushed, then the jump (R416, R421). -/
def callTo (target : Word) (s : State) : Res Unit :=
  (tick s).bind fun _ t => (pushWord s.pc t).bind fun _ t => .ok () (t.setPC target)

/-- CALL nn (R416). -/
def call (nn : Word) (s : State) : Res Unit := callTo nn s

/-- CALL cc,nn (R417). -/
def callCond (cc : Cond) (nn : Word) (s : State) : Res Unit := onCond cc (callTo nn) s

/-- RET (R418). -/
def ret (s : State) : Res Unit := returnToCaller s

/-- RET cc: the test costs an internal cycle (R419). -/
def retCond (cc : Cond) (s : State) : Res Unit := (tick s).bind fun _ t => onCond cc returnToCaller t

/-- RETI (R420). -/
def reti (s : State) : Res Unit := returnFromInterrupt s

/-- RST: a call of the vector `y * 8` (R147, R421). -/
def rst (y : Fin 8) (s : State) : Res Unit := callTo (BitVec.ofNat 16 (y.val * 8)) s

/-! ## The meanings -/

/-- JR e (R414). -/
def execJr_e (e : Byte) (s : State) : Result := (jr e s).finish

/-- JR NZ,e (R415). -/
def execJr_NZ_e (e : Byte) (s : State) : Result := (jrCond .nz e s).finish

/-- JR Z,e (R415). -/
def execJr_Z_e (e : Byte) (s : State) : Result := (jrCond .z e s).finish

/-- JR NC,e (R415). -/
def execJr_NC_e (e : Byte) (s : State) : Result := (jrCond .nc e s).finish

/-- JR C,e (R415). -/
def execJr_C_e (e : Byte) (s : State) : Result := (jrCond .c e s).finish

/-- RET NZ (R419). -/
def execRet_NZ (s : State) : Result := (retCond .nz s).finish

/-- JP NZ,nn (R412). -/
def execJp_NZ_nn (nn : Word) (s : State) : Result := (jpCond .nz nn s).finish

/-- JP nn (R411). -/
def execJp_nn (nn : Word) (s : State) : Result := (jp nn s).finish

/-- CALL NZ,nn (R417). -/
def execCall_NZ_nn (nn : Word) (s : State) : Result := (callCond .nz nn s).finish

/-- RST 0x00 (R421). -/
def execRst_00 (s : State) : Result := (rst 0 s).finish

/-- RET Z (R419). -/
def execRet_Z (s : State) : Result := (retCond .z s).finish

/-- RET (R418). -/
def execRet (s : State) : Result := (ret s).finish

/-- JP Z,nn (R412). -/
def execJp_Z_nn (nn : Word) (s : State) : Result := (jpCond .z nn s).finish

/-- CALL Z,nn (R417). -/
def execCall_Z_nn (nn : Word) (s : State) : Result := (callCond .z nn s).finish

/-- CALL nn (R416). -/
def execCall_nn (nn : Word) (s : State) : Result := (call nn s).finish

/-- RST 0x08 (R421). -/
def execRst_08 (s : State) : Result := (rst 1 s).finish

/-- RET NC (R419). -/
def execRet_NC (s : State) : Result := (retCond .nc s).finish

/-- JP NC,nn (R412). -/
def execJp_NC_nn (nn : Word) (s : State) : Result := (jpCond .nc nn s).finish

/-- CALL NC,nn (R417). -/
def execCall_NC_nn (nn : Word) (s : State) : Result := (callCond .nc nn s).finish

/-- RST 0x10 (R421). -/
def execRst_10 (s : State) : Result := (rst 2 s).finish

/-- RET C (R419). -/
def execRet_C (s : State) : Result := (retCond .c s).finish

/-- RETI (R420). -/
def execReti (s : State) : Result := (reti s).finish

/-- JP C,nn (R412). -/
def execJp_C_nn (nn : Word) (s : State) : Result := (jpCond .c nn s).finish

/-- CALL C,nn (R417). -/
def execCall_C_nn (nn : Word) (s : State) : Result := (callCond .c nn s).finish

/-- RST 0x18 (R421). -/
def execRst_18 (s : State) : Result := (rst 3 s).finish

/-- RST 0x20 (R421). -/
def execRst_20 (s : State) : Result := (rst 4 s).finish

/-- JP HL (R413). -/
def execJp_HL (s : State) : Result := (jpHl s).finish

/-- RST 0x28 (R421). -/
def execRst_28 (s : State) : Result := (rst 5 s).finish

/-- RST 0x30 (R421). -/
def execRst_30 (s : State) : Result := (rst 6 s).finish

/-- RST 0x38 (R421). -/
def execRst_38 (s : State) : Result := (rst 7 s).finish

end Sys2Proof.Machine
end

