-- ==== Sys2Proof/Machine/Load16.lean ====
section
/-! DEFINITION. 16-bit loads and the stack (42_load16 R261 to R267). The shared operations stand first, then the meaning of each instruction. -/

namespace Sys2Proof.Machine

/-- LD rr,nn (R261). -/
def ldPairImm (rr : R16) (nn : Word) (s : State) : Res Unit := .ok () (s.setR16 rr nn)

/-- LD (nn),SP: the low byte first (R262). -/
def ldAtNnSp (nn : Word) (s : State) : Res Unit :=
  (memWrite nn (loByte s.sp) s).bind fun _ t => memWrite (nn + 1) (hiByte s.sp) t

/-- LD SP,HL (R263). -/
def ldSpHl (s : State) : Res Unit := (tick s).bind fun _ t => .ok () (t.setSP (s.r16 .hl))

/-- PUSH rr (R264). -/
def push (rr : R16Stk) (s : State) : Res Unit := (tick s).bind fun _ t => pushWord (s.stk rr) t

/-- POP rr and POP AF (R265, R266). -/
def pop (rr : R16Stk) (s : State) : Res Unit := (popWord s).bind fun v t => .ok () (t.setStk rr v)

/-- LD HL,SP+e (R267). -/
def ldHlSpE (e : Byte) (s : State) : Res Unit :=
  (tick s).bind fun _ t => .ok () ((t.setR16 .hl (addSpResult s.sp e).1).setFlags (addSpResult s.sp e).2)

/-! ## The meanings -/

/-- LD BC,nn (R261). -/
def execLd_BC_nn (nn : Word) (s : State) : Result := (ldPairImm .bc nn s).finish

/-- LD (nn),SP (R262). -/
def execLd_atNN_SP (nn : Word) (s : State) : Result := (ldAtNnSp nn s).finish

/-- LD DE,nn (R261). -/
def execLd_DE_nn (nn : Word) (s : State) : Result := (ldPairImm .de nn s).finish

/-- LD HL,nn (R261). -/
def execLd_HL_nn (nn : Word) (s : State) : Result := (ldPairImm .hl nn s).finish

/-- LD SP,nn (R261). -/
def execLd_SP_nn (nn : Word) (s : State) : Result := (ldPairImm .sp nn s).finish

/-- POP BC (R265). -/
def execPop_BC (s : State) : Result := (pop .bc s).finish

/-- PUSH BC (R264). -/
def execPush_BC (s : State) : Result := (push .bc s).finish

/-- POP DE (R265). -/
def execPop_DE (s : State) : Result := (pop .de s).finish

/-- PUSH DE (R264). -/
def execPush_DE (s : State) : Result := (push .de s).finish

/-- POP HL (R265). -/
def execPop_HL (s : State) : Result := (pop .hl s).finish

/-- PUSH HL (R264). -/
def execPush_HL (s : State) : Result := (push .hl s).finish

/-- POP AF (R266). -/
def execPop_AF (s : State) : Result := (pop .af s).finish

/-- PUSH AF (R264). -/
def execPush_AF (s : State) : Result := (push .af s).finish

/-- LD HL,SP+e (R267). -/
def execLd_HL_SPe (e : Byte) (s : State) : Result := (ldHlSpE e s).finish

/-- LD SP,HL (R263). -/
def execLd_SP_HL (s : State) : Result := (ldSpHl s).finish

end Sys2Proof.Machine
end

