-- ==== Sys2Proof/Machine/Load8.lean ====
section
/-! DEFINITION. 8-bit loads (41_load8 R220 to R238). No load writes a flag. The shared operations stand first, then the meaning of each instruction. -/

namespace Sys2Proof.Machine

/-- LD r,r' (R220). -/
def ldRegReg (dst src : R8) (s : State) : Res Unit := .ok () (s.setR8 dst (s.r8 src))

/-- LD r,n (R221). -/
def ldRegImm (dst : R8) (n : Byte) (s : State) : Res Unit := .ok () (s.setR8 dst n)

/-- Load a register from the byte at an address (R222, R225, R226, R233, R235, R237). -/
def loadReg (dst : R8) (addr : Word) (s : State) : Res Unit :=
  (memRead addr s).bind fun v s => .ok () (s.setR8 dst v)

/-- Store a register to an address (R223, R227, R228, R234, R236, R238). -/
def storeReg (src : R8) (addr : Word) (s : State) : Res Unit := memWrite addr (s.r8 src) s

/-- LD (HL),n (R224). -/
def ldAtHlImm (n : Byte) (s : State) : Res Unit := memWrite (s.r16 .hl) n s

/-- LD A,(HL+) and LD A,(HL-): HL moves by `step` after the read (R229, R230). -/
def loadAMoveHl (step : Word) (s : State) : Res Unit :=
  (memRead (s.r16 .hl) s).bind fun v t => .ok () ((t.setR8 .a v).setR16 .hl (s.r16 .hl + step))

/-- LD (HL+),A and LD (HL-),A: HL moves by `step` after the write (R231, R232). -/
def storeAMoveHl (step : Word) (s : State) : Res Unit :=
  (memWrite (s.r16 .hl) (s.r8 .a) s).bind fun _ t => .ok () (t.setR16 .hl (s.r16 .hl + step))

/-! ## The meanings -/

/-- LD (BC),A (R227). -/
def execLd_atBC_A (s : State) : Result := (storeReg .a (s.r16 .bc) s).finish

/-- LD B,n (R221). -/
def execLd_B_n (n : Byte) (s : State) : Result := (ldRegImm .b n s).finish

/-- LD A,(BC) (R225). -/
def execLd_A_atBC (s : State) : Result := (loadReg .a (s.r16 .bc) s).finish

/-- LD C,n (R221). -/
def execLd_C_n (n : Byte) (s : State) : Result := (ldRegImm .c n s).finish

/-- LD (DE),A (R228). -/
def execLd_atDE_A (s : State) : Result := (storeReg .a (s.r16 .de) s).finish

/-- LD D,n (R221). -/
def execLd_D_n (n : Byte) (s : State) : Result := (ldRegImm .d n s).finish

/-- LD A,(DE) (R226). -/
def execLd_A_atDE (s : State) : Result := (loadReg .a (s.r16 .de) s).finish

/-- LD E,n (R221). -/
def execLd_E_n (n : Byte) (s : State) : Result := (ldRegImm .e n s).finish

/-- LD (HL+),A (R231). -/
def execLd_atHLinc_A (s : State) : Result := (storeAMoveHl 1 s).finish

/-- LD H,n (R221). -/
def execLd_H_n (n : Byte) (s : State) : Result := (ldRegImm .h n s).finish

/-- LD A,(HL+) (R229). -/
def execLd_A_atHLinc (s : State) : Result := (loadAMoveHl 1 s).finish

/-- LD L,n (R221). -/
def execLd_L_n (n : Byte) (s : State) : Result := (ldRegImm .l n s).finish

/-- LD (HL-),A (R232). -/
def execLd_atHLdec_A (s : State) : Result := (storeAMoveHl (-1) s).finish

/-- LD (HL),n (R224). -/
def execLd_atHL_n (n : Byte) (s : State) : Result := (ldAtHlImm n s).finish

/-- LD A,(HL-) (R230). -/
def execLd_A_atHLdec (s : State) : Result := (loadAMoveHl (-1) s).finish

/-- LD A,n (R221). -/
def execLd_A_n (n : Byte) (s : State) : Result := (ldRegImm .a n s).finish

/-- LD B,B (R220). -/
def execLd_B_B (s : State) : Result := (ldRegReg .b .b s).finish

/-- LD B,C (R220). -/
def execLd_B_C (s : State) : Result := (ldRegReg .b .c s).finish

/-- LD B,D (R220). -/
def execLd_B_D (s : State) : Result := (ldRegReg .b .d s).finish

/-- LD B,E (R220). -/
def execLd_B_E (s : State) : Result := (ldRegReg .b .e s).finish

/-- LD B,H (R220). -/
def execLd_B_H (s : State) : Result := (ldRegReg .b .h s).finish

/-- LD B,L (R220). -/
def execLd_B_L (s : State) : Result := (ldRegReg .b .l s).finish

/-- LD B,(HL) (R222). -/
def execLd_B_atHL (s : State) : Result := (loadReg .b (s.r16 .hl) s).finish

/-- LD B,A (R220). -/
def execLd_B_A (s : State) : Result := (ldRegReg .b .a s).finish

/-- LD C,B (R220). -/
def execLd_C_B (s : State) : Result := (ldRegReg .c .b s).finish

/-- LD C,C (R220). -/
def execLd_C_C (s : State) : Result := (ldRegReg .c .c s).finish

/-- LD C,D (R220). -/
def execLd_C_D (s : State) : Result := (ldRegReg .c .d s).finish

/-- LD C,E (R220). -/
def execLd_C_E (s : State) : Result := (ldRegReg .c .e s).finish

/-- LD C,H (R220). -/
def execLd_C_H (s : State) : Result := (ldRegReg .c .h s).finish

/-- LD C,L (R220). -/
def execLd_C_L (s : State) : Result := (ldRegReg .c .l s).finish

/-- LD C,(HL) (R222). -/
def execLd_C_atHL (s : State) : Result := (loadReg .c (s.r16 .hl) s).finish

/-- LD C,A (R220). -/
def execLd_C_A (s : State) : Result := (ldRegReg .c .a s).finish

/-- LD D,B (R220). -/
def execLd_D_B (s : State) : Result := (ldRegReg .d .b s).finish

/-- LD D,C (R220). -/
def execLd_D_C (s : State) : Result := (ldRegReg .d .c s).finish

/-- LD D,D (R220). -/
def execLd_D_D (s : State) : Result := (ldRegReg .d .d s).finish

/-- LD D,E (R220). -/
def execLd_D_E (s : State) : Result := (ldRegReg .d .e s).finish

/-- LD D,H (R220). -/
def execLd_D_H (s : State) : Result := (ldRegReg .d .h s).finish

/-- LD D,L (R220). -/
def execLd_D_L (s : State) : Result := (ldRegReg .d .l s).finish

/-- LD D,(HL) (R222). -/
def execLd_D_atHL (s : State) : Result := (loadReg .d (s.r16 .hl) s).finish

/-- LD D,A (R220). -/
def execLd_D_A (s : State) : Result := (ldRegReg .d .a s).finish

/-- LD E,B (R220). -/
def execLd_E_B (s : State) : Result := (ldRegReg .e .b s).finish

/-- LD E,C (R220). -/
def execLd_E_C (s : State) : Result := (ldRegReg .e .c s).finish

/-- LD E,D (R220). -/
def execLd_E_D (s : State) : Result := (ldRegReg .e .d s).finish

/-- LD E,E (R220). -/
def execLd_E_E (s : State) : Result := (ldRegReg .e .e s).finish

/-- LD E,H (R220). -/
def execLd_E_H (s : State) : Result := (ldRegReg .e .h s).finish

/-- LD E,L (R220). -/
def execLd_E_L (s : State) : Result := (ldRegReg .e .l s).finish

/-- LD E,(HL) (R222). -/
def execLd_E_atHL (s : State) : Result := (loadReg .e (s.r16 .hl) s).finish

/-- LD E,A (R220). -/
def execLd_E_A (s : State) : Result := (ldRegReg .e .a s).finish

/-- LD H,B (R220). -/
def execLd_H_B (s : State) : Result := (ldRegReg .h .b s).finish

/-- LD H,C (R220). -/
def execLd_H_C (s : State) : Result := (ldRegReg .h .c s).finish

/-- LD H,D (R220). -/
def execLd_H_D (s : State) : Result := (ldRegReg .h .d s).finish

/-- LD H,E (R220). -/
def execLd_H_E (s : State) : Result := (ldRegReg .h .e s).finish

/-- LD H,H (R220). -/
def execLd_H_H (s : State) : Result := (ldRegReg .h .h s).finish

/-- LD H,L (R220). -/
def execLd_H_L (s : State) : Result := (ldRegReg .h .l s).finish

/-- LD H,(HL) (R222). -/
def execLd_H_atHL (s : State) : Result := (loadReg .h (s.r16 .hl) s).finish

/-- LD H,A (R220). -/
def execLd_H_A (s : State) : Result := (ldRegReg .h .a s).finish

/-- LD L,B (R220). -/
def execLd_L_B (s : State) : Result := (ldRegReg .l .b s).finish

/-- LD L,C (R220). -/
def execLd_L_C (s : State) : Result := (ldRegReg .l .c s).finish

/-- LD L,D (R220). -/
def execLd_L_D (s : State) : Result := (ldRegReg .l .d s).finish

/-- LD L,E (R220). -/
def execLd_L_E (s : State) : Result := (ldRegReg .l .e s).finish

/-- LD L,H (R220). -/
def execLd_L_H (s : State) : Result := (ldRegReg .l .h s).finish

/-- LD L,L (R220). -/
def execLd_L_L (s : State) : Result := (ldRegReg .l .l s).finish

/-- LD L,(HL) (R222). -/
def execLd_L_atHL (s : State) : Result := (loadReg .l (s.r16 .hl) s).finish

/-- LD L,A (R220). -/
def execLd_L_A (s : State) : Result := (ldRegReg .l .a s).finish

/-- LD (HL),B (R223). -/
def execLd_atHL_B (s : State) : Result := (storeReg .b (s.r16 .hl) s).finish

/-- LD (HL),C (R223). -/
def execLd_atHL_C (s : State) : Result := (storeReg .c (s.r16 .hl) s).finish

/-- LD (HL),D (R223). -/
def execLd_atHL_D (s : State) : Result := (storeReg .d (s.r16 .hl) s).finish

/-- LD (HL),E (R223). -/
def execLd_atHL_E (s : State) : Result := (storeReg .e (s.r16 .hl) s).finish

/-- LD (HL),H (R223). -/
def execLd_atHL_H (s : State) : Result := (storeReg .h (s.r16 .hl) s).finish

/-- LD (HL),L (R223). -/
def execLd_atHL_L (s : State) : Result := (storeReg .l (s.r16 .hl) s).finish

/-- LD (HL),A (R223). -/
def execLd_atHL_A (s : State) : Result := (storeReg .a (s.r16 .hl) s).finish

/-- LD A,B (R220). -/
def execLd_A_B (s : State) : Result := (ldRegReg .a .b s).finish

/-- LD A,C (R220). -/
def execLd_A_C (s : State) : Result := (ldRegReg .a .c s).finish

/-- LD A,D (R220). -/
def execLd_A_D (s : State) : Result := (ldRegReg .a .d s).finish

/-- LD A,E (R220). -/
def execLd_A_E (s : State) : Result := (ldRegReg .a .e s).finish

/-- LD A,H (R220). -/
def execLd_A_H (s : State) : Result := (ldRegReg .a .h s).finish

/-- LD A,L (R220). -/
def execLd_A_L (s : State) : Result := (ldRegReg .a .l s).finish

/-- LD A,(HL) (R222). -/
def execLd_A_atHL (s : State) : Result := (loadReg .a (s.r16 .hl) s).finish

/-- LD A,A (R220). -/
def execLd_A_A (s : State) : Result := (ldRegReg .a .a s).finish

/-- LDH (n),A (R236). -/
def execLdh_atN_A (n : Byte) (s : State) : Result := (storeReg .a (highPage n) s).finish

/-- LD (C),A (R238). -/
def execLd_atC_A (s : State) : Result := (storeReg .a (highPage (s.r8 .c)) s).finish

/-- LD (nn),A (R234). -/
def execLd_atNN_A (nn : Word) (s : State) : Result := (storeReg .a nn s).finish

/-- LDH A,(n) (R235). -/
def execLdh_A_atN (n : Byte) (s : State) : Result := (loadReg .a (highPage n) s).finish

/-- LD A,(C) (R237). -/
def execLd_A_atC (s : State) : Result := (loadReg .a (highPage (s.r8 .c)) s).finish

/-- LD A,(nn) (R233). -/
def execLd_A_atNN (nn : Word) (s : State) : Result := (loadReg .a nn s).finish

end Sys2Proof.Machine
end

