-- ==== Sys2Proof/Machine/Bit.lean ====
section
/-! DEFINITION. Bit test, reset and set (46_bit R390 to R392). RES and SET write no flag. The shared operations stand first, then the meaning of each instruction. -/

namespace Sys2Proof.Machine

/-- BIT b,r (R390). -/
def bitReg (b : Fin 8) (r : R8) (s : State) : Res Unit := .ok () (s.setFlags (bitFlags b (s.r8 r) s.flags))

/-- BIT b,(HL): no write cycle (R390). -/
def bitAtHl (b : Fin 8) (s : State) : Res Unit :=
  (memRead (s.r16 .hl) s).bind fun v t => .ok () (t.setFlags (bitFlags b v s.flags))

/-- RES b,r (R391). -/
def resReg (b : Fin 8) (r : R8) (s : State) : Res Unit := .ok () (s.setR8 r (resBit b (s.r8 r)))

/-- RES b,(HL) (R391). -/
def resAtHl (b : Fin 8) (s : State) : Res Unit :=
  (memRead (s.r16 .hl) s).bind fun v t => memWrite (s.r16 .hl) (resBit b v) t

/-- SET b,r (R392). -/
def setReg (b : Fin 8) (r : R8) (s : State) : Res Unit := .ok () (s.setR8 r (setBit b (s.r8 r)))

/-- SET b,(HL) (R392). -/
def setAtHl (b : Fin 8) (s : State) : Res Unit :=
  (memRead (s.r16 .hl) s).bind fun v t => memWrite (s.r16 .hl) (setBit b v) t

/-! ## The meanings -/

/-- BIT 0,B (R390). -/
def execBit_0_B (s : State) : Result := (bitReg 0 .b s).finish

/-- BIT 0,C (R390). -/
def execBit_0_C (s : State) : Result := (bitReg 0 .c s).finish

/-- BIT 0,D (R390). -/
def execBit_0_D (s : State) : Result := (bitReg 0 .d s).finish

/-- BIT 0,E (R390). -/
def execBit_0_E (s : State) : Result := (bitReg 0 .e s).finish

/-- BIT 0,H (R390). -/
def execBit_0_H (s : State) : Result := (bitReg 0 .h s).finish

/-- BIT 0,L (R390). -/
def execBit_0_L (s : State) : Result := (bitReg 0 .l s).finish

/-- BIT 0,(HL) (R390). -/
def execBit_0_atHL (s : State) : Result := (bitAtHl 0 s).finish

/-- BIT 0,A (R390). -/
def execBit_0_A (s : State) : Result := (bitReg 0 .a s).finish

/-- BIT 1,B (R390). -/
def execBit_1_B (s : State) : Result := (bitReg 1 .b s).finish

/-- BIT 1,C (R390). -/
def execBit_1_C (s : State) : Result := (bitReg 1 .c s).finish

/-- BIT 1,D (R390). -/
def execBit_1_D (s : State) : Result := (bitReg 1 .d s).finish

/-- BIT 1,E (R390). -/
def execBit_1_E (s : State) : Result := (bitReg 1 .e s).finish

/-- BIT 1,H (R390). -/
def execBit_1_H (s : State) : Result := (bitReg 1 .h s).finish

/-- BIT 1,L (R390). -/
def execBit_1_L (s : State) : Result := (bitReg 1 .l s).finish

/-- BIT 1,(HL) (R390). -/
def execBit_1_atHL (s : State) : Result := (bitAtHl 1 s).finish

/-- BIT 1,A (R390). -/
def execBit_1_A (s : State) : Result := (bitReg 1 .a s).finish

/-- BIT 2,B (R390). -/
def execBit_2_B (s : State) : Result := (bitReg 2 .b s).finish

/-- BIT 2,C (R390). -/
def execBit_2_C (s : State) : Result := (bitReg 2 .c s).finish

/-- BIT 2,D (R390). -/
def execBit_2_D (s : State) : Result := (bitReg 2 .d s).finish

/-- BIT 2,E (R390). -/
def execBit_2_E (s : State) : Result := (bitReg 2 .e s).finish

/-- BIT 2,H (R390). -/
def execBit_2_H (s : State) : Result := (bitReg 2 .h s).finish

/-- BIT 2,L (R390). -/
def execBit_2_L (s : State) : Result := (bitReg 2 .l s).finish

/-- BIT 2,(HL) (R390). -/
def execBit_2_atHL (s : State) : Result := (bitAtHl 2 s).finish

/-- BIT 2,A (R390). -/
def execBit_2_A (s : State) : Result := (bitReg 2 .a s).finish

/-- BIT 3,B (R390). -/
def execBit_3_B (s : State) : Result := (bitReg 3 .b s).finish

/-- BIT 3,C (R390). -/
def execBit_3_C (s : State) : Result := (bitReg 3 .c s).finish

/-- BIT 3,D (R390). -/
def execBit_3_D (s : State) : Result := (bitReg 3 .d s).finish

/-- BIT 3,E (R390). -/
def execBit_3_E (s : State) : Result := (bitReg 3 .e s).finish

/-- BIT 3,H (R390). -/
def execBit_3_H (s : State) : Result := (bitReg 3 .h s).finish

/-- BIT 3,L (R390). -/
def execBit_3_L (s : State) : Result := (bitReg 3 .l s).finish

/-- BIT 3,(HL) (R390). -/
def execBit_3_atHL (s : State) : Result := (bitAtHl 3 s).finish

/-- BIT 3,A (R390). -/
def execBit_3_A (s : State) : Result := (bitReg 3 .a s).finish

/-- BIT 4,B (R390). -/
def execBit_4_B (s : State) : Result := (bitReg 4 .b s).finish

/-- BIT 4,C (R390). -/
def execBit_4_C (s : State) : Result := (bitReg 4 .c s).finish

/-- BIT 4,D (R390). -/
def execBit_4_D (s : State) : Result := (bitReg 4 .d s).finish

/-- BIT 4,E (R390). -/
def execBit_4_E (s : State) : Result := (bitReg 4 .e s).finish

/-- BIT 4,H (R390). -/
def execBit_4_H (s : State) : Result := (bitReg 4 .h s).finish

/-- BIT 4,L (R390). -/
def execBit_4_L (s : State) : Result := (bitReg 4 .l s).finish

/-- BIT 4,(HL) (R390). -/
def execBit_4_atHL (s : State) : Result := (bitAtHl 4 s).finish

/-- BIT 4,A (R390). -/
def execBit_4_A (s : State) : Result := (bitReg 4 .a s).finish

/-- BIT 5,B (R390). -/
def execBit_5_B (s : State) : Result := (bitReg 5 .b s).finish

/-- BIT 5,C (R390). -/
def execBit_5_C (s : State) : Result := (bitReg 5 .c s).finish

/-- BIT 5,D (R390). -/
def execBit_5_D (s : State) : Result := (bitReg 5 .d s).finish

/-- BIT 5,E (R390). -/
def execBit_5_E (s : State) : Result := (bitReg 5 .e s).finish

/-- BIT 5,H (R390). -/
def execBit_5_H (s : State) : Result := (bitReg 5 .h s).finish

/-- BIT 5,L (R390). -/
def execBit_5_L (s : State) : Result := (bitReg 5 .l s).finish

/-- BIT 5,(HL) (R390). -/
def execBit_5_atHL (s : State) : Result := (bitAtHl 5 s).finish

/-- BIT 5,A (R390). -/
def execBit_5_A (s : State) : Result := (bitReg 5 .a s).finish

/-- BIT 6,B (R390). -/
def execBit_6_B (s : State) : Result := (bitReg 6 .b s).finish

/-- BIT 6,C (R390). -/
def execBit_6_C (s : State) : Result := (bitReg 6 .c s).finish

/-- BIT 6,D (R390). -/
def execBit_6_D (s : State) : Result := (bitReg 6 .d s).finish

/-- BIT 6,E (R390). -/
def execBit_6_E (s : State) : Result := (bitReg 6 .e s).finish

/-- BIT 6,H (R390). -/
def execBit_6_H (s : State) : Result := (bitReg 6 .h s).finish

/-- BIT 6,L (R390). -/
def execBit_6_L (s : State) : Result := (bitReg 6 .l s).finish

/-- BIT 6,(HL) (R390). -/
def execBit_6_atHL (s : State) : Result := (bitAtHl 6 s).finish

/-- BIT 6,A (R390). -/
def execBit_6_A (s : State) : Result := (bitReg 6 .a s).finish

/-- BIT 7,B (R390). -/
def execBit_7_B (s : State) : Result := (bitReg 7 .b s).finish

/-- BIT 7,C (R390). -/
def execBit_7_C (s : State) : Result := (bitReg 7 .c s).finish

/-- BIT 7,D (R390). -/
def execBit_7_D (s : State) : Result := (bitReg 7 .d s).finish

/-- BIT 7,E (R390). -/
def execBit_7_E (s : State) : Result := (bitReg 7 .e s).finish

/-- BIT 7,H (R390). -/
def execBit_7_H (s : State) : Result := (bitReg 7 .h s).finish

/-- BIT 7,L (R390). -/
def execBit_7_L (s : State) : Result := (bitReg 7 .l s).finish

/-- BIT 7,(HL) (R390). -/
def execBit_7_atHL (s : State) : Result := (bitAtHl 7 s).finish

/-- BIT 7,A (R390). -/
def execBit_7_A (s : State) : Result := (bitReg 7 .a s).finish

/-- RES 0,B (R391). -/
def execRes_0_B (s : State) : Result := (resReg 0 .b s).finish

/-- RES 0,C (R391). -/
def execRes_0_C (s : State) : Result := (resReg 0 .c s).finish

/-- RES 0,D (R391). -/
def execRes_0_D (s : State) : Result := (resReg 0 .d s).finish

/-- RES 0,E (R391). -/
def execRes_0_E (s : State) : Result := (resReg 0 .e s).finish

/-- RES 0,H (R391). -/
def execRes_0_H (s : State) : Result := (resReg 0 .h s).finish

/-- RES 0,L (R391). -/
def execRes_0_L (s : State) : Result := (resReg 0 .l s).finish

/-- RES 0,(HL) (R391). -/
def execRes_0_atHL (s : State) : Result := (resAtHl 0 s).finish

/-- RES 0,A (R391). -/
def execRes_0_A (s : State) : Result := (resReg 0 .a s).finish

/-- RES 1,B (R391). -/
def execRes_1_B (s : State) : Result := (resReg 1 .b s).finish

/-- RES 1,C (R391). -/
def execRes_1_C (s : State) : Result := (resReg 1 .c s).finish

/-- RES 1,D (R391). -/
def execRes_1_D (s : State) : Result := (resReg 1 .d s).finish

/-- RES 1,E (R391). -/
def execRes_1_E (s : State) : Result := (resReg 1 .e s).finish

/-- RES 1,H (R391). -/
def execRes_1_H (s : State) : Result := (resReg 1 .h s).finish

/-- RES 1,L (R391). -/
def execRes_1_L (s : State) : Result := (resReg 1 .l s).finish

/-- RES 1,(HL) (R391). -/
def execRes_1_atHL (s : State) : Result := (resAtHl 1 s).finish

/-- RES 1,A (R391). -/
def execRes_1_A (s : State) : Result := (resReg 1 .a s).finish

/-- RES 2,B (R391). -/
def execRes_2_B (s : State) : Result := (resReg 2 .b s).finish

/-- RES 2,C (R391). -/
def execRes_2_C (s : State) : Result := (resReg 2 .c s).finish

/-- RES 2,D (R391). -/
def execRes_2_D (s : State) : Result := (resReg 2 .d s).finish

/-- RES 2,E (R391). -/
def execRes_2_E (s : State) : Result := (resReg 2 .e s).finish

/-- RES 2,H (R391). -/
def execRes_2_H (s : State) : Result := (resReg 2 .h s).finish

/-- RES 2,L (R391). -/
def execRes_2_L (s : State) : Result := (resReg 2 .l s).finish

/-- RES 2,(HL) (R391). -/
def execRes_2_atHL (s : State) : Result := (resAtHl 2 s).finish

/-- RES 2,A (R391). -/
def execRes_2_A (s : State) : Result := (resReg 2 .a s).finish

/-- RES 3,B (R391). -/
def execRes_3_B (s : State) : Result := (resReg 3 .b s).finish

/-- RES 3,C (R391). -/
def execRes_3_C (s : State) : Result := (resReg 3 .c s).finish

/-- RES 3,D (R391). -/
def execRes_3_D (s : State) : Result := (resReg 3 .d s).finish

/-- RES 3,E (R391). -/
def execRes_3_E (s : State) : Result := (resReg 3 .e s).finish

/-- RES 3,H (R391). -/
def execRes_3_H (s : State) : Result := (resReg 3 .h s).finish

/-- RES 3,L (R391). -/
def execRes_3_L (s : State) : Result := (resReg 3 .l s).finish

/-- RES 3,(HL) (R391). -/
def execRes_3_atHL (s : State) : Result := (resAtHl 3 s).finish

/-- RES 3,A (R391). -/
def execRes_3_A (s : State) : Result := (resReg 3 .a s).finish

/-- RES 4,B (R391). -/
def execRes_4_B (s : State) : Result := (resReg 4 .b s).finish

/-- RES 4,C (R391). -/
def execRes_4_C (s : State) : Result := (resReg 4 .c s).finish

/-- RES 4,D (R391). -/
def execRes_4_D (s : State) : Result := (resReg 4 .d s).finish

/-- RES 4,E (R391). -/
def execRes_4_E (s : State) : Result := (resReg 4 .e s).finish

/-- RES 4,H (R391). -/
def execRes_4_H (s : State) : Result := (resReg 4 .h s).finish

/-- RES 4,L (R391). -/
def execRes_4_L (s : State) : Result := (resReg 4 .l s).finish

/-- RES 4,(HL) (R391). -/
def execRes_4_atHL (s : State) : Result := (resAtHl 4 s).finish

/-- RES 4,A (R391). -/
def execRes_4_A (s : State) : Result := (resReg 4 .a s).finish

/-- RES 5,B (R391). -/
def execRes_5_B (s : State) : Result := (resReg 5 .b s).finish

/-- RES 5,C (R391). -/
def execRes_5_C (s : State) : Result := (resReg 5 .c s).finish

/-- RES 5,D (R391). -/
def execRes_5_D (s : State) : Result := (resReg 5 .d s).finish

/-- RES 5,E (R391). -/
def execRes_5_E (s : State) : Result := (resReg 5 .e s).finish

/-- RES 5,H (R391). -/
def execRes_5_H (s : State) : Result := (resReg 5 .h s).finish

/-- RES 5,L (R391). -/
def execRes_5_L (s : State) : Result := (resReg 5 .l s).finish

/-- RES 5,(HL) (R391). -/
def execRes_5_atHL (s : State) : Result := (resAtHl 5 s).finish

/-- RES 5,A (R391). -/
def execRes_5_A (s : State) : Result := (resReg 5 .a s).finish

/-- RES 6,B (R391). -/
def execRes_6_B (s : State) : Result := (resReg 6 .b s).finish

/-- RES 6,C (R391). -/
def execRes_6_C (s : State) : Result := (resReg 6 .c s).finish

/-- RES 6,D (R391). -/
def execRes_6_D (s : State) : Result := (resReg 6 .d s).finish

/-- RES 6,E (R391). -/
def execRes_6_E (s : State) : Result := (resReg 6 .e s).finish

/-- RES 6,H (R391). -/
def execRes_6_H (s : State) : Result := (resReg 6 .h s).finish

/-- RES 6,L (R391). -/
def execRes_6_L (s : State) : Result := (resReg 6 .l s).finish

/-- RES 6,(HL) (R391). -/
def execRes_6_atHL (s : State) : Result := (resAtHl 6 s).finish

/-- RES 6,A (R391). -/
def execRes_6_A (s : State) : Result := (resReg 6 .a s).finish

/-- RES 7,B (R391). -/
def execRes_7_B (s : State) : Result := (resReg 7 .b s).finish

/-- RES 7,C (R391). -/
def execRes_7_C (s : State) : Result := (resReg 7 .c s).finish

/-- RES 7,D (R391). -/
def execRes_7_D (s : State) : Result := (resReg 7 .d s).finish

/-- RES 7,E (R391). -/
def execRes_7_E (s : State) : Result := (resReg 7 .e s).finish

/-- RES 7,H (R391). -/
def execRes_7_H (s : State) : Result := (resReg 7 .h s).finish

/-- RES 7,L (R391). -/
def execRes_7_L (s : State) : Result := (resReg 7 .l s).finish

/-- RES 7,(HL) (R391). -/
def execRes_7_atHL (s : State) : Result := (resAtHl 7 s).finish

/-- RES 7,A (R391). -/
def execRes_7_A (s : State) : Result := (resReg 7 .a s).finish

/-- SET 0,B (R392). -/
def execSet_0_B (s : State) : Result := (setReg 0 .b s).finish

/-- SET 0,C (R392). -/
def execSet_0_C (s : State) : Result := (setReg 0 .c s).finish

/-- SET 0,D (R392). -/
def execSet_0_D (s : State) : Result := (setReg 0 .d s).finish

/-- SET 0,E (R392). -/
def execSet_0_E (s : State) : Result := (setReg 0 .e s).finish

/-- SET 0,H (R392). -/
def execSet_0_H (s : State) : Result := (setReg 0 .h s).finish

/-- SET 0,L (R392). -/
def execSet_0_L (s : State) : Result := (setReg 0 .l s).finish

/-- SET 0,(HL) (R392). -/
def execSet_0_atHL (s : State) : Result := (setAtHl 0 s).finish

/-- SET 0,A (R392). -/
def execSet_0_A (s : State) : Result := (setReg 0 .a s).finish

/-- SET 1,B (R392). -/
def execSet_1_B (s : State) : Result := (setReg 1 .b s).finish

/-- SET 1,C (R392). -/
def execSet_1_C (s : State) : Result := (setReg 1 .c s).finish

/-- SET 1,D (R392). -/
def execSet_1_D (s : State) : Result := (setReg 1 .d s).finish

/-- SET 1,E (R392). -/
def execSet_1_E (s : State) : Result := (setReg 1 .e s).finish

/-- SET 1,H (R392). -/
def execSet_1_H (s : State) : Result := (setReg 1 .h s).finish

/-- SET 1,L (R392). -/
def execSet_1_L (s : State) : Result := (setReg 1 .l s).finish

/-- SET 1,(HL) (R392). -/
def execSet_1_atHL (s : State) : Result := (setAtHl 1 s).finish

/-- SET 1,A (R392). -/
def execSet_1_A (s : State) : Result := (setReg 1 .a s).finish

/-- SET 2,B (R392). -/
def execSet_2_B (s : State) : Result := (setReg 2 .b s).finish

/-- SET 2,C (R392). -/
def execSet_2_C (s : State) : Result := (setReg 2 .c s).finish

/-- SET 2,D (R392). -/
def execSet_2_D (s : State) : Result := (setReg 2 .d s).finish

/-- SET 2,E (R392). -/
def execSet_2_E (s : State) : Result := (setReg 2 .e s).finish

/-- SET 2,H (R392). -/
def execSet_2_H (s : State) : Result := (setReg 2 .h s).finish

/-- SET 2,L (R392). -/
def execSet_2_L (s : State) : Result := (setReg 2 .l s).finish

/-- SET 2,(HL) (R392). -/
def execSet_2_atHL (s : State) : Result := (setAtHl 2 s).finish

/-- SET 2,A (R392). -/
def execSet_2_A (s : State) : Result := (setReg 2 .a s).finish

/-- SET 3,B (R392). -/
def execSet_3_B (s : State) : Result := (setReg 3 .b s).finish

/-- SET 3,C (R392). -/
def execSet_3_C (s : State) : Result := (setReg 3 .c s).finish

/-- SET 3,D (R392). -/
def execSet_3_D (s : State) : Result := (setReg 3 .d s).finish

/-- SET 3,E (R392). -/
def execSet_3_E (s : State) : Result := (setReg 3 .e s).finish

/-- SET 3,H (R392). -/
def execSet_3_H (s : State) : Result := (setReg 3 .h s).finish

/-- SET 3,L (R392). -/
def execSet_3_L (s : State) : Result := (setReg 3 .l s).finish

/-- SET 3,(HL) (R392). -/
def execSet_3_atHL (s : State) : Result := (setAtHl 3 s).finish

/-- SET 3,A (R392). -/
def execSet_3_A (s : State) : Result := (setReg 3 .a s).finish

/-- SET 4,B (R392). -/
def execSet_4_B (s : State) : Result := (setReg 4 .b s).finish

/-- SET 4,C (R392). -/
def execSet_4_C (s : State) : Result := (setReg 4 .c s).finish

/-- SET 4,D (R392). -/
def execSet_4_D (s : State) : Result := (setReg 4 .d s).finish

/-- SET 4,E (R392). -/
def execSet_4_E (s : State) : Result := (setReg 4 .e s).finish

/-- SET 4,H (R392). -/
def execSet_4_H (s : State) : Result := (setReg 4 .h s).finish

/-- SET 4,L (R392). -/
def execSet_4_L (s : State) : Result := (setReg 4 .l s).finish

/-- SET 4,(HL) (R392). -/
def execSet_4_atHL (s : State) : Result := (setAtHl 4 s).finish

/-- SET 4,A (R392). -/
def execSet_4_A (s : State) : Result := (setReg 4 .a s).finish

/-- SET 5,B (R392). -/
def execSet_5_B (s : State) : Result := (setReg 5 .b s).finish

/-- SET 5,C (R392). -/
def execSet_5_C (s : State) : Result := (setReg 5 .c s).finish

/-- SET 5,D (R392). -/
def execSet_5_D (s : State) : Result := (setReg 5 .d s).finish

/-- SET 5,E (R392). -/
def execSet_5_E (s : State) : Result := (setReg 5 .e s).finish

/-- SET 5,H (R392). -/
def execSet_5_H (s : State) : Result := (setReg 5 .h s).finish

/-- SET 5,L (R392). -/
def execSet_5_L (s : State) : Result := (setReg 5 .l s).finish

/-- SET 5,(HL) (R392). -/
def execSet_5_atHL (s : State) : Result := (setAtHl 5 s).finish

/-- SET 5,A (R392). -/
def execSet_5_A (s : State) : Result := (setReg 5 .a s).finish

/-- SET 6,B (R392). -/
def execSet_6_B (s : State) : Result := (setReg 6 .b s).finish

/-- SET 6,C (R392). -/
def execSet_6_C (s : State) : Result := (setReg 6 .c s).finish

/-- SET 6,D (R392). -/
def execSet_6_D (s : State) : Result := (setReg 6 .d s).finish

/-- SET 6,E (R392). -/
def execSet_6_E (s : State) : Result := (setReg 6 .e s).finish

/-- SET 6,H (R392). -/
def execSet_6_H (s : State) : Result := (setReg 6 .h s).finish

/-- SET 6,L (R392). -/
def execSet_6_L (s : State) : Result := (setReg 6 .l s).finish

/-- SET 6,(HL) (R392). -/
def execSet_6_atHL (s : State) : Result := (setAtHl 6 s).finish

/-- SET 6,A (R392). -/
def execSet_6_A (s : State) : Result := (setReg 6 .a s).finish

/-- SET 7,B (R392). -/
def execSet_7_B (s : State) : Result := (setReg 7 .b s).finish

/-- SET 7,C (R392). -/
def execSet_7_C (s : State) : Result := (setReg 7 .c s).finish

/-- SET 7,D (R392). -/
def execSet_7_D (s : State) : Result := (setReg 7 .d s).finish

/-- SET 7,E (R392). -/
def execSet_7_E (s : State) : Result := (setReg 7 .e s).finish

/-- SET 7,H (R392). -/
def execSet_7_H (s : State) : Result := (setReg 7 .h s).finish

/-- SET 7,L (R392). -/
def execSet_7_L (s : State) : Result := (setReg 7 .l s).finish

/-- SET 7,(HL) (R392). -/
def execSet_7_atHL (s : State) : Result := (setAtHl 7 s).finish

/-- SET 7,A (R392). -/
def execSet_7_A (s : State) : Result := (setReg 7 .a s).finish

end Sys2Proof.Machine
end

