-- ==== Sys2Proof/Machine/Alu8.lean ====
section
/-! DEFINITION. 8-bit arithmetic and logic (43_alu8 R290 to R307). The shared operations stand first, then the meaning of each instruction. -/

namespace Sys2Proof.Machine

/-- An accumulator operation with the operand `v` (R290 to R299). -/
def aluWith (op : AluOp) (v : Byte) (s : State) : Res Unit :=
  .ok () (s.setAF (aluResult op (s.r8 .a) v s.flags.c))

/-- The register form (R290). -/
def aluReg (op : AluOp) (src : R8) (s : State) : Res Unit := aluWith op (s.r8 src) s

/-- The memory form (R290). -/
def aluAtHl (op : AluOp) (s : State) : Res Unit := (memRead (s.r16 .hl) s).bind fun v t => aluWith op v t

/-- The immediate form (R290). -/
def aluImm (op : AluOp) (n : Byte) (s : State) : Res Unit := aluWith op n s

/-- Change a register by an operation that reads and writes flags (R300, R302, R364). -/
def modifyReg (f : Byte → Flags → Byte × Flags) (r : R8) (s : State) : Res Unit :=
  .ok () ((s.setR8 r (f (s.r8 r) s.flags).1).setFlags (f (s.r8 r) s.flags).2)

/-- Change the byte at HL by an operation that reads and writes flags: a read cycle, a write cycle, then the flags
(R301, R303). -/
def modifyAtHl (f : Byte → Flags → Byte × Flags) (s : State) : Res Unit :=
  (memRead (s.r16 .hl) s).bind fun v t =>
  (memWrite (s.r16 .hl) (f v s.flags).1 t).bind fun _ u => .ok () (u.setFlags (f v s.flags).2)

/-- DAA (R304). -/
def daa (s : State) : Res Unit := .ok () (s.setAF (daaResult (s.r8 .a) s.flags))

/-- CPL (R305). -/
def cpl (s : State) : Res Unit := .ok () (s.setAF (cplResult (s.r8 .a) s.flags))

/-- SCF (R306). -/
def scf (s : State) : Res Unit := .ok () (s.setFlags (scfFlags s.flags))

/-- CCF (R307). -/
def ccf (s : State) : Res Unit := .ok () (s.setFlags (ccfFlags s.flags))

/-! ## The meanings -/

/-- INC B (R300). -/
def execInc_B (s : State) : Result := (modifyReg inc8 .b s).finish

/-- DEC B (R302). -/
def execDec_B (s : State) : Result := (modifyReg dec8 .b s).finish

/-- INC C (R300). -/
def execInc_C (s : State) : Result := (modifyReg inc8 .c s).finish

/-- DEC C (R302). -/
def execDec_C (s : State) : Result := (modifyReg dec8 .c s).finish

/-- INC D (R300). -/
def execInc_D (s : State) : Result := (modifyReg inc8 .d s).finish

/-- DEC D (R302). -/
def execDec_D (s : State) : Result := (modifyReg dec8 .d s).finish

/-- INC E (R300). -/
def execInc_E (s : State) : Result := (modifyReg inc8 .e s).finish

/-- DEC E (R302). -/
def execDec_E (s : State) : Result := (modifyReg dec8 .e s).finish

/-- INC H (R300). -/
def execInc_H (s : State) : Result := (modifyReg inc8 .h s).finish

/-- DEC H (R302). -/
def execDec_H (s : State) : Result := (modifyReg dec8 .h s).finish

/-- DAA (R304). -/
def execDaa (s : State) : Result := (daa s).finish

/-- INC L (R300). -/
def execInc_L (s : State) : Result := (modifyReg inc8 .l s).finish

/-- DEC L (R302). -/
def execDec_L (s : State) : Result := (modifyReg dec8 .l s).finish

/-- CPL (R305). -/
def execCpl (s : State) : Result := (cpl s).finish

/-- INC (HL) (R301). -/
def execInc_atHL (s : State) : Result := (modifyAtHl inc8 s).finish

/-- DEC (HL) (R303). -/
def execDec_atHL (s : State) : Result := (modifyAtHl dec8 s).finish

/-- SCF (R306). -/
def execScf (s : State) : Result := (scf s).finish

/-- INC A (R300). -/
def execInc_A (s : State) : Result := (modifyReg inc8 .a s).finish

/-- DEC A (R302). -/
def execDec_A (s : State) : Result := (modifyReg dec8 .a s).finish

/-- CCF (R307). -/
def execCcf (s : State) : Result := (ccf s).finish

/-- ADD A,B (R292). -/
def execAdd_A_B (s : State) : Result := (aluReg .add .b s).finish

/-- ADD A,C (R292). -/
def execAdd_A_C (s : State) : Result := (aluReg .add .c s).finish

/-- ADD A,D (R292). -/
def execAdd_A_D (s : State) : Result := (aluReg .add .d s).finish

/-- ADD A,E (R292). -/
def execAdd_A_E (s : State) : Result := (aluReg .add .e s).finish

/-- ADD A,H (R292). -/
def execAdd_A_H (s : State) : Result := (aluReg .add .h s).finish

/-- ADD A,L (R292). -/
def execAdd_A_L (s : State) : Result := (aluReg .add .l s).finish

/-- ADD A,(HL) (R292). -/
def execAdd_A_atHL (s : State) : Result := (aluAtHl .add s).finish

/-- ADD A,A (R292). -/
def execAdd_A_A (s : State) : Result := (aluReg .add .a s).finish

/-- ADC A,B (R293). -/
def execAdc_A_B (s : State) : Result := (aluReg .adc .b s).finish

/-- ADC A,C (R293). -/
def execAdc_A_C (s : State) : Result := (aluReg .adc .c s).finish

/-- ADC A,D (R293). -/
def execAdc_A_D (s : State) : Result := (aluReg .adc .d s).finish

/-- ADC A,E (R293). -/
def execAdc_A_E (s : State) : Result := (aluReg .adc .e s).finish

/-- ADC A,H (R293). -/
def execAdc_A_H (s : State) : Result := (aluReg .adc .h s).finish

/-- ADC A,L (R293). -/
def execAdc_A_L (s : State) : Result := (aluReg .adc .l s).finish

/-- ADC A,(HL) (R293). -/
def execAdc_A_atHL (s : State) : Result := (aluAtHl .adc s).finish

/-- ADC A,A (R293). -/
def execAdc_A_A (s : State) : Result := (aluReg .adc .a s).finish

/-- SUB A,B (R294). -/
def execSub_A_B (s : State) : Result := (aluReg .sub .b s).finish

/-- SUB A,C (R294). -/
def execSub_A_C (s : State) : Result := (aluReg .sub .c s).finish

/-- SUB A,D (R294). -/
def execSub_A_D (s : State) : Result := (aluReg .sub .d s).finish

/-- SUB A,E (R294). -/
def execSub_A_E (s : State) : Result := (aluReg .sub .e s).finish

/-- SUB A,H (R294). -/
def execSub_A_H (s : State) : Result := (aluReg .sub .h s).finish

/-- SUB A,L (R294). -/
def execSub_A_L (s : State) : Result := (aluReg .sub .l s).finish

/-- SUB A,(HL) (R294). -/
def execSub_A_atHL (s : State) : Result := (aluAtHl .sub s).finish

/-- SUB A,A (R294). -/
def execSub_A_A (s : State) : Result := (aluReg .sub .a s).finish

/-- SBC A,B (R295). -/
def execSbc_A_B (s : State) : Result := (aluReg .sbc .b s).finish

/-- SBC A,C (R295). -/
def execSbc_A_C (s : State) : Result := (aluReg .sbc .c s).finish

/-- SBC A,D (R295). -/
def execSbc_A_D (s : State) : Result := (aluReg .sbc .d s).finish

/-- SBC A,E (R295). -/
def execSbc_A_E (s : State) : Result := (aluReg .sbc .e s).finish

/-- SBC A,H (R295). -/
def execSbc_A_H (s : State) : Result := (aluReg .sbc .h s).finish

/-- SBC A,L (R295). -/
def execSbc_A_L (s : State) : Result := (aluReg .sbc .l s).finish

/-- SBC A,(HL) (R295). -/
def execSbc_A_atHL (s : State) : Result := (aluAtHl .sbc s).finish

/-- SBC A,A (R295). -/
def execSbc_A_A (s : State) : Result := (aluReg .sbc .a s).finish

/-- AND A,B (R296). -/
def execAnd_A_B (s : State) : Result := (aluReg .and .b s).finish

/-- AND A,C (R296). -/
def execAnd_A_C (s : State) : Result := (aluReg .and .c s).finish

/-- AND A,D (R296). -/
def execAnd_A_D (s : State) : Result := (aluReg .and .d s).finish

/-- AND A,E (R296). -/
def execAnd_A_E (s : State) : Result := (aluReg .and .e s).finish

/-- AND A,H (R296). -/
def execAnd_A_H (s : State) : Result := (aluReg .and .h s).finish

/-- AND A,L (R296). -/
def execAnd_A_L (s : State) : Result := (aluReg .and .l s).finish

/-- AND A,(HL) (R296). -/
def execAnd_A_atHL (s : State) : Result := (aluAtHl .and s).finish

/-- AND A,A (R296). -/
def execAnd_A_A (s : State) : Result := (aluReg .and .a s).finish

/-- XOR A,B (R297). -/
def execXor_A_B (s : State) : Result := (aluReg .xor .b s).finish

/-- XOR A,C (R297). -/
def execXor_A_C (s : State) : Result := (aluReg .xor .c s).finish

/-- XOR A,D (R297). -/
def execXor_A_D (s : State) : Result := (aluReg .xor .d s).finish

/-- XOR A,E (R297). -/
def execXor_A_E (s : State) : Result := (aluReg .xor .e s).finish

/-- XOR A,H (R297). -/
def execXor_A_H (s : State) : Result := (aluReg .xor .h s).finish

/-- XOR A,L (R297). -/
def execXor_A_L (s : State) : Result := (aluReg .xor .l s).finish

/-- XOR A,(HL) (R297). -/
def execXor_A_atHL (s : State) : Result := (aluAtHl .xor s).finish

/-- XOR A,A (R297). -/
def execXor_A_A (s : State) : Result := (aluReg .xor .a s).finish

/-- OR A,B (R298). -/
def execOr_A_B (s : State) : Result := (aluReg .or .b s).finish

/-- OR A,C (R298). -/
def execOr_A_C (s : State) : Result := (aluReg .or .c s).finish

/-- OR A,D (R298). -/
def execOr_A_D (s : State) : Result := (aluReg .or .d s).finish

/-- OR A,E (R298). -/
def execOr_A_E (s : State) : Result := (aluReg .or .e s).finish

/-- OR A,H (R298). -/
def execOr_A_H (s : State) : Result := (aluReg .or .h s).finish

/-- OR A,L (R298). -/
def execOr_A_L (s : State) : Result := (aluReg .or .l s).finish

/-- OR A,(HL) (R298). -/
def execOr_A_atHL (s : State) : Result := (aluAtHl .or s).finish

/-- OR A,A (R298). -/
def execOr_A_A (s : State) : Result := (aluReg .or .a s).finish

/-- CP A,B (R299). -/
def execCp_A_B (s : State) : Result := (aluReg .cp .b s).finish

/-- CP A,C (R299). -/
def execCp_A_C (s : State) : Result := (aluReg .cp .c s).finish

/-- CP A,D (R299). -/
def execCp_A_D (s : State) : Result := (aluReg .cp .d s).finish

/-- CP A,E (R299). -/
def execCp_A_E (s : State) : Result := (aluReg .cp .e s).finish

/-- CP A,H (R299). -/
def execCp_A_H (s : State) : Result := (aluReg .cp .h s).finish

/-- CP A,L (R299). -/
def execCp_A_L (s : State) : Result := (aluReg .cp .l s).finish

/-- CP A,(HL) (R299). -/
def execCp_A_atHL (s : State) : Result := (aluAtHl .cp s).finish

/-- CP A,A (R299). -/
def execCp_A_A (s : State) : Result := (aluReg .cp .a s).finish

/-- ADD A,n (R292). -/
def execAdd_A_n (n : Byte) (s : State) : Result := (aluImm .add n s).finish

/-- ADC A,n (R293). -/
def execAdc_A_n (n : Byte) (s : State) : Result := (aluImm .adc n s).finish

/-- SUB A,n (R294). -/
def execSub_A_n (n : Byte) (s : State) : Result := (aluImm .sub n s).finish

/-- SBC A,n (R295). -/
def execSbc_A_n (n : Byte) (s : State) : Result := (aluImm .sbc n s).finish

/-- AND A,n (R296). -/
def execAnd_A_n (n : Byte) (s : State) : Result := (aluImm .and n s).finish

/-- XOR A,n (R297). -/
def execXor_A_n (n : Byte) (s : State) : Result := (aluImm .xor n s).finish

/-- OR A,n (R298). -/
def execOr_A_n (n : Byte) (s : State) : Result := (aluImm .or n s).finish

/-- CP A,n (R299). -/
def execCp_A_n (n : Byte) (s : State) : Result := (aluImm .cp n s).finish

end Sys2Proof.Machine
end

