-- ==== Sys2Proof/Machine/Rotate.lean ====
section
/-! DEFINITION. Rotates, shifts and swap (45_rotate_shift R360 to R372). The shared operations stand first, then the meaning of each instruction. -/

namespace Sys2Proof.Machine

/-- An accumulator rotate (R360 to R363). -/
def rotA (op : RotOp) (s : State) : Res Unit := .ok () (s.setAF (rotAResult op (s.r8 .a) s.flags))

/-- A secondary rotate, shift or swap of a register (R364). -/
def rotReg (op : RotOp) (r : R8) (s : State) : Res Unit := modifyReg (rotResult op) r s

/-- The same of the byte at HL. The flags are written before the write cycle: the operation writes them, then the
result is written back (R364; log entry 6). -/
def rotAtHl (op : RotOp) (s : State) : Res Unit :=
  (memRead (s.r16 .hl) s).bind fun v t =>
    memWrite (s.r16 .hl) (rotResult op v s.flags).1 (t.setFlags (rotResult op v s.flags).2)

/-! ## The meanings -/

/-- RLCA (R360). -/
def execRlca (s : State) : Result := (rotA .rlc s).finish

/-- RRCA (R361). -/
def execRrca (s : State) : Result := (rotA .rrc s).finish

/-- RLA (R362). -/
def execRla (s : State) : Result := (rotA .rl s).finish

/-- RRA (R363). -/
def execRra (s : State) : Result := (rotA .rr s).finish

/-- RLC B (R365). -/
def execRlc_B (s : State) : Result := (rotReg .rlc .b s).finish

/-- RLC C (R365). -/
def execRlc_C (s : State) : Result := (rotReg .rlc .c s).finish

/-- RLC D (R365). -/
def execRlc_D (s : State) : Result := (rotReg .rlc .d s).finish

/-- RLC E (R365). -/
def execRlc_E (s : State) : Result := (rotReg .rlc .e s).finish

/-- RLC H (R365). -/
def execRlc_H (s : State) : Result := (rotReg .rlc .h s).finish

/-- RLC L (R365). -/
def execRlc_L (s : State) : Result := (rotReg .rlc .l s).finish

/-- RLC (HL) (R365). -/
def execRlc_atHL (s : State) : Result := (rotAtHl .rlc s).finish

/-- RLC A (R365). -/
def execRlc_A (s : State) : Result := (rotReg .rlc .a s).finish

/-- RRC B (R366). -/
def execRrc_B (s : State) : Result := (rotReg .rrc .b s).finish

/-- RRC C (R366). -/
def execRrc_C (s : State) : Result := (rotReg .rrc .c s).finish

/-- RRC D (R366). -/
def execRrc_D (s : State) : Result := (rotReg .rrc .d s).finish

/-- RRC E (R366). -/
def execRrc_E (s : State) : Result := (rotReg .rrc .e s).finish

/-- RRC H (R366). -/
def execRrc_H (s : State) : Result := (rotReg .rrc .h s).finish

/-- RRC L (R366). -/
def execRrc_L (s : State) : Result := (rotReg .rrc .l s).finish

/-- RRC (HL) (R366). -/
def execRrc_atHL (s : State) : Result := (rotAtHl .rrc s).finish

/-- RRC A (R366). -/
def execRrc_A (s : State) : Result := (rotReg .rrc .a s).finish

/-- RL B (R367). -/
def execRl_B (s : State) : Result := (rotReg .rl .b s).finish

/-- RL C (R367). -/
def execRl_C (s : State) : Result := (rotReg .rl .c s).finish

/-- RL D (R367). -/
def execRl_D (s : State) : Result := (rotReg .rl .d s).finish

/-- RL E (R367). -/
def execRl_E (s : State) : Result := (rotReg .rl .e s).finish

/-- RL H (R367). -/
def execRl_H (s : State) : Result := (rotReg .rl .h s).finish

/-- RL L (R367). -/
def execRl_L (s : State) : Result := (rotReg .rl .l s).finish

/-- RL (HL) (R367). -/
def execRl_atHL (s : State) : Result := (rotAtHl .rl s).finish

/-- RL A (R367). -/
def execRl_A (s : State) : Result := (rotReg .rl .a s).finish

/-- RR B (R368). -/
def execRr_B (s : State) : Result := (rotReg .rr .b s).finish

/-- RR C (R368). -/
def execRr_C (s : State) : Result := (rotReg .rr .c s).finish

/-- RR D (R368). -/
def execRr_D (s : State) : Result := (rotReg .rr .d s).finish

/-- RR E (R368). -/
def execRr_E (s : State) : Result := (rotReg .rr .e s).finish

/-- RR H (R368). -/
def execRr_H (s : State) : Result := (rotReg .rr .h s).finish

/-- RR L (R368). -/
def execRr_L (s : State) : Result := (rotReg .rr .l s).finish

/-- RR (HL) (R368). -/
def execRr_atHL (s : State) : Result := (rotAtHl .rr s).finish

/-- RR A (R368). -/
def execRr_A (s : State) : Result := (rotReg .rr .a s).finish

/-- SLA B (R369). -/
def execSla_B (s : State) : Result := (rotReg .sla .b s).finish

/-- SLA C (R369). -/
def execSla_C (s : State) : Result := (rotReg .sla .c s).finish

/-- SLA D (R369). -/
def execSla_D (s : State) : Result := (rotReg .sla .d s).finish

/-- SLA E (R369). -/
def execSla_E (s : State) : Result := (rotReg .sla .e s).finish

/-- SLA H (R369). -/
def execSla_H (s : State) : Result := (rotReg .sla .h s).finish

/-- SLA L (R369). -/
def execSla_L (s : State) : Result := (rotReg .sla .l s).finish

/-- SLA (HL) (R369). -/
def execSla_atHL (s : State) : Result := (rotAtHl .sla s).finish

/-- SLA A (R369). -/
def execSla_A (s : State) : Result := (rotReg .sla .a s).finish

/-- SRA B (R370). -/
def execSra_B (s : State) : Result := (rotReg .sra .b s).finish

/-- SRA C (R370). -/
def execSra_C (s : State) : Result := (rotReg .sra .c s).finish

/-- SRA D (R370). -/
def execSra_D (s : State) : Result := (rotReg .sra .d s).finish

/-- SRA E (R370). -/
def execSra_E (s : State) : Result := (rotReg .sra .e s).finish

/-- SRA H (R370). -/
def execSra_H (s : State) : Result := (rotReg .sra .h s).finish

/-- SRA L (R370). -/
def execSra_L (s : State) : Result := (rotReg .sra .l s).finish

/-- SRA (HL) (R370). -/
def execSra_atHL (s : State) : Result := (rotAtHl .sra s).finish

/-- SRA A (R370). -/
def execSra_A (s : State) : Result := (rotReg .sra .a s).finish

/-- SWAP B (R371). -/
def execSwap_B (s : State) : Result := (rotReg .swap .b s).finish

/-- SWAP C (R371). -/
def execSwap_C (s : State) : Result := (rotReg .swap .c s).finish

/-- SWAP D (R371). -/
def execSwap_D (s : State) : Result := (rotReg .swap .d s).finish

/-- SWAP E (R371). -/
def execSwap_E (s : State) : Result := (rotReg .swap .e s).finish

/-- SWAP H (R371). -/
def execSwap_H (s : State) : Result := (rotReg .swap .h s).finish

/-- SWAP L (R371). -/
def execSwap_L (s : State) : Result := (rotReg .swap .l s).finish

/-- SWAP (HL) (R371). -/
def execSwap_atHL (s : State) : Result := (rotAtHl .swap s).finish

/-- SWAP A (R371). -/
def execSwap_A (s : State) : Result := (rotReg .swap .a s).finish

/-- SRL B (R372). -/
def execSrl_B (s : State) : Result := (rotReg .srl .b s).finish

/-- SRL C (R372). -/
def execSrl_C (s : State) : Result := (rotReg .srl .c s).finish

/-- SRL D (R372). -/
def execSrl_D (s : State) : Result := (rotReg .srl .d s).finish

/-- SRL E (R372). -/
def execSrl_E (s : State) : Result := (rotReg .srl .e s).finish

/-- SRL H (R372). -/
def execSrl_H (s : State) : Result := (rotReg .srl .h s).finish

/-- SRL L (R372). -/
def execSrl_L (s : State) : Result := (rotReg .srl .l s).finish

/-- SRL (HL) (R372). -/
def execSrl_atHL (s : State) : Result := (rotAtHl .srl s).finish

/-- SRL A (R372). -/
def execSrl_A (s : State) : Result := (rotReg .srl .a s).finish

end Sys2Proof.Machine
end

