-- ==== Sys2Proof/Machine/Prefix.lean ====
section
/-! DEFINITION. The escape entry of the primary table (R188): one more fetch, then the handler of the secondary table.
`step` decodes an escape and its second byte as one instruction; this entry is the table row on its own. -/

namespace Sys2Proof.Machine

/-- The handlers of the secondary table (R188), row = high nibble, column = low nibble, as R152 lists them. -/
def secondaryHandlers : Vector (Vector (State → Result) 16) 16 :=
  #v[
    #v[ execRlc_B, execRlc_C, execRlc_D, execRlc_E, execRlc_H, execRlc_L, execRlc_atHL, execRlc_A,
        execRrc_B, execRrc_C, execRrc_D, execRrc_E, execRrc_H, execRrc_L, execRrc_atHL, execRrc_A ],
    #v[ execRl_B, execRl_C, execRl_D, execRl_E, execRl_H, execRl_L, execRl_atHL, execRl_A,
        execRr_B, execRr_C, execRr_D, execRr_E, execRr_H, execRr_L, execRr_atHL, execRr_A ],
    #v[ execSla_B, execSla_C, execSla_D, execSla_E, execSla_H, execSla_L, execSla_atHL, execSla_A,
        execSra_B, execSra_C, execSra_D, execSra_E, execSra_H, execSra_L, execSra_atHL, execSra_A ],
    #v[ execSwap_B, execSwap_C, execSwap_D, execSwap_E, execSwap_H, execSwap_L, execSwap_atHL, execSwap_A,
        execSrl_B, execSrl_C, execSrl_D, execSrl_E, execSrl_H, execSrl_L, execSrl_atHL, execSrl_A ],
    #v[ execBit_0_B, execBit_0_C, execBit_0_D, execBit_0_E, execBit_0_H, execBit_0_L, execBit_0_atHL, execBit_0_A,
        execBit_1_B, execBit_1_C, execBit_1_D, execBit_1_E, execBit_1_H, execBit_1_L, execBit_1_atHL, execBit_1_A ],
    #v[ execBit_2_B, execBit_2_C, execBit_2_D, execBit_2_E, execBit_2_H, execBit_2_L, execBit_2_atHL, execBit_2_A,
        execBit_3_B, execBit_3_C, execBit_3_D, execBit_3_E, execBit_3_H, execBit_3_L, execBit_3_atHL, execBit_3_A ],
    #v[ execBit_4_B, execBit_4_C, execBit_4_D, execBit_4_E, execBit_4_H, execBit_4_L, execBit_4_atHL, execBit_4_A,
        execBit_5_B, execBit_5_C, execBit_5_D, execBit_5_E, execBit_5_H, execBit_5_L, execBit_5_atHL, execBit_5_A ],
    #v[ execBit_6_B, execBit_6_C, execBit_6_D, execBit_6_E, execBit_6_H, execBit_6_L, execBit_6_atHL, execBit_6_A,
        execBit_7_B, execBit_7_C, execBit_7_D, execBit_7_E, execBit_7_H, execBit_7_L, execBit_7_atHL, execBit_7_A ],
    #v[ execRes_0_B, execRes_0_C, execRes_0_D, execRes_0_E, execRes_0_H, execRes_0_L, execRes_0_atHL, execRes_0_A,
        execRes_1_B, execRes_1_C, execRes_1_D, execRes_1_E, execRes_1_H, execRes_1_L, execRes_1_atHL, execRes_1_A ],
    #v[ execRes_2_B, execRes_2_C, execRes_2_D, execRes_2_E, execRes_2_H, execRes_2_L, execRes_2_atHL, execRes_2_A,
        execRes_3_B, execRes_3_C, execRes_3_D, execRes_3_E, execRes_3_H, execRes_3_L, execRes_3_atHL, execRes_3_A ],
    #v[ execRes_4_B, execRes_4_C, execRes_4_D, execRes_4_E, execRes_4_H, execRes_4_L, execRes_4_atHL, execRes_4_A,
        execRes_5_B, execRes_5_C, execRes_5_D, execRes_5_E, execRes_5_H, execRes_5_L, execRes_5_atHL, execRes_5_A ],
    #v[ execRes_6_B, execRes_6_C, execRes_6_D, execRes_6_E, execRes_6_H, execRes_6_L, execRes_6_atHL, execRes_6_A,
        execRes_7_B, execRes_7_C, execRes_7_D, execRes_7_E, execRes_7_H, execRes_7_L, execRes_7_atHL, execRes_7_A ],
    #v[ execSet_0_B, execSet_0_C, execSet_0_D, execSet_0_E, execSet_0_H, execSet_0_L, execSet_0_atHL, execSet_0_A,
        execSet_1_B, execSet_1_C, execSet_1_D, execSet_1_E, execSet_1_H, execSet_1_L, execSet_1_atHL, execSet_1_A ],
    #v[ execSet_2_B, execSet_2_C, execSet_2_D, execSet_2_E, execSet_2_H, execSet_2_L, execSet_2_atHL, execSet_2_A,
        execSet_3_B, execSet_3_C, execSet_3_D, execSet_3_E, execSet_3_H, execSet_3_L, execSet_3_atHL, execSet_3_A ],
    #v[ execSet_4_B, execSet_4_C, execSet_4_D, execSet_4_E, execSet_4_H, execSet_4_L, execSet_4_atHL, execSet_4_A,
        execSet_5_B, execSet_5_C, execSet_5_D, execSet_5_E, execSet_5_H, execSet_5_L, execSet_5_atHL, execSet_5_A ],
    #v[ execSet_6_B, execSet_6_C, execSet_6_D, execSet_6_E, execSet_6_H, execSet_6_L, execSet_6_atHL, execSet_6_A,
        execSet_7_B, execSet_7_C, execSet_7_D, execSet_7_E, execSet_7_H, execSet_7_L, execSet_7_atHL, execSet_7_A ] ]

/-- `Secondary[op2]` (R188). -/
def runSecondary (op2 : Byte) (s : State) : Result :=
  ((secondaryHandlers.get (hiNibble op2)).get (loNibble op2)) s

/-- PREFIX CB (R188). -/
def execPrefixCB (s : State) : Result :=
  match fetch8 s with
  | .ok op2 t => runSecondary op2 t
  | .stop t => .next t

end Sys2Proof.Machine
end

