-- ==== Sys2Proof/Machine/System.lean ====
section
/-! DEFINITION. System and miscellaneous instructions (48_system R450 to R456). The shared operations stand first, then the meaning of each instruction. -/

namespace Sys2Proof.Machine

/-- NOP (R450). -/
def nop (s : State) : Res Unit := .ok () s

/-- HALT, with the halt bug (R451, R452). -/
def halt (s : State) : Res Unit :=
  if !s.ime && s.pending && s.params.haltBug then .ok () { s with haltBug := true }
  else .ok () { s with halted := true }

/-- STOP raises a fault (R453). -/
def stop (s : State) : Res Unit := raise (.unmodelledInstruction 0x10 s.opPC) s

/-- DI (R454). -/
def di (s : State) : Res Unit := .ok () { s with ime := false, eiPending := false }

/-- EI (R455). -/
def ei (s : State) : Res Unit := .ok () { s with eiPending := true }

/-- An unassigned opcode raises a fault (R456). -/
def illegal (op : Byte) (s : State) : Res Unit := raise (.undefinedOpcode op s.opPC) s

/-! ## The meanings -/

/-- NOP (R450). -/
def execNop (s : State) : Result := (nop s).finish

/-- STOP (R453). -/
def execStop (s : State) : Result := (stop s).finish

/-- HALT (R451). -/
def execHalt (s : State) : Result := (halt s).finish

/-- ILLEGAL_D3 (R456). -/
def execIllegal_D3 (s : State) : Result := (illegal 0xD3#8 s).finish

/-- ILLEGAL_DB (R456). -/
def execIllegal_DB (s : State) : Result := (illegal 0xDB#8 s).finish

/-- ILLEGAL_DD (R456). -/
def execIllegal_DD (s : State) : Result := (illegal 0xDD#8 s).finish

/-- ILLEGAL_E3 (R456). -/
def execIllegal_E3 (s : State) : Result := (illegal 0xE3#8 s).finish

/-- ILLEGAL_E4 (R456). -/
def execIllegal_E4 (s : State) : Result := (illegal 0xE4#8 s).finish

/-- ILLEGAL_EB (R456). -/
def execIllegal_EB (s : State) : Result := (illegal 0xEB#8 s).finish

/-- ILLEGAL_EC (R456). -/
def execIllegal_EC (s : State) : Result := (illegal 0xEC#8 s).finish

/-- ILLEGAL_ED (R456). -/
def execIllegal_ED (s : State) : Result := (illegal 0xED#8 s).finish

/-- DI (R454). -/
def execDi (s : State) : Result := (di s).finish

/-- ILLEGAL_F4 (R456). -/
def execIllegal_F4 (s : State) : Result := (illegal 0xF4#8 s).finish

/-- EI (R455). -/
def execEi (s : State) : Result := (ei s).finish

/-- ILLEGAL_FC (R456). -/
def execIllegal_FC (s : State) : Result := (illegal 0xFC#8 s).finish

/-- ILLEGAL_FD (R456). -/
def execIllegal_FD (s : State) : Result := (illegal 0xFD#8 s).finish

end Sys2Proof.Machine
end

