-- ==== Sys2Proof/Machine/Step.lean ====
section
/-! DEFINITION. One step of the machine (R180 to R193), and how an instruction is placed where the next step fetches it. -/

namespace Sys2Proof.Machine

/-- `ExecuteInstruction()` (R183). -/
def executeInstruction (s : State) : Host.Outcome State Fault Refusal :=
  match fetchInstr s with
  | .ok i t => endInstruction s.eiPending (exec i t)
  | .stop t => .next t

/-- `Step()` (R180). After a fault there is no step: the machine answers the fault (R193). -/
def step (s : State) : Host.Outcome State Fault Refusal :=
  match s.fault with
  | some f => .fault f
  | none =>
    if s.acceptsInterrupt then (serviceInterrupt (beginStep s)).finish
    else if s.idles then (tick (beginStep s)).finish
    else executeInstruction (wake (beginStep s))

/-- Place an instruction of the opcode table where `step` fetches next, so that the next step runs it. -/
def State.withFetchWord (s : State) (nbits w : Nat) : State := placeBytes (instrBytes nbits w) (readyToFetch s)

end Sys2Proof.Machine
end

