-- ==== Sys2Proof/Machine/FrameDriver.lean ====
section
/-! DEFINITION. The Frame Driver (R610): steps until the budget of 17,556 M-cycles is met. -/

namespace Sys2Proof.Machine

/-- How a frame ends: its total and the machine with the frame's bitmap, or the fault that ended it (R610). -/
inductive FrameEnd where
  | done (total : Nat) (s : State)
  | faulted (f : Fault) (s : State)
  | refused (e : Refusal)
  deriving Repr

/-- The loop of `RunFrame()`. Every step costs at least one M-cycle, so a fuel of the budget never runs out first. -/
def runFrameFrom (fuel total : Nat) (s : State) : FrameEnd :=
  match fuel with
  | 0 => .done total s
  | fuel + 1 =>
    if total < Config.frameBudget then
      match step s with
      | .next t =>
        match t.fault with
        | some f => .faulted f t
        | none => runFrameFrom fuel (total + (t.cycles - s.cycles)) t
      | .fault f => .faulted f s
      | .refused e => .refused e
    else .done total s

/-- `RunFrame()` (R610). The bitmap it returns is that of the machine it ends in. -/
def runFrame (s : State) : FrameEnd := runFrameFrom Config.frameBudget 0 s

end Sys2Proof.Machine
end

