-- ==== Sys2Proof/Machine/Harness.lean ====
section
/-! DEFINITION. The conformance harness: the host interface of R194 to R199. None of its operations ticks except
`hostStep`. -/

namespace Sys2Proof.Machine

/-- The values that `HostSetRegs` is given: each field it names (R195). -/
structure HostRegs where
  a         : Option Nat := none
  f         : Option Nat := none
  b         : Option Nat := none
  c         : Option Nat := none
  d         : Option Nat := none
  e         : Option Nat := none
  h         : Option Nat := none
  l         : Option Nat := none
  sp        : Option Nat := none
  pc        : Option Nat := none
  ime       : Option Bool := none
  eiPending : Option Bool := none
  halted    : Option Bool := none
  haltBug   : Option Bool := none
  deriving DecidableEq, Repr

/-- A named value masked to its width, or the value that stands (R195). -/
def orKeep {w : Nat} (v : Option Nat) (old : BitVec w) : BitVec w :=
  match v with
  | some n => BitVec.ofNat w n
  | none => old

/-- `HostSetRegs(rec)` (R195). -/
def hostSetRegs (rec : HostRegs) (s : State) : State :=
  { s with
    regs :=
      { a := orKeep rec.a s.regs.a, b := orKeep rec.b s.regs.b, c := orKeep rec.c s.regs.c,
        d := orKeep rec.d s.regs.d, e := orKeep rec.e s.regs.e, h := orKeep rec.h s.regs.h,
        l := orKeep rec.l s.regs.l,
        flags := match rec.f with
          | some n => Flags.ofByte (BitVec.ofNat 8 n)
          | none => s.regs.flags
        sp := orKeep rec.sp s.regs.sp, pc := orKeep rec.pc s.regs.pc }
    ime := rec.ime.getD s.ime
    eiPending := rec.eiPending.getD s.eiPending
    halted := rec.halted.getD s.halted
    haltBug := rec.haltBug.getD s.haltBug }

/-- `HostPoke(addr, v)` (R196); `none` is a refused poke, a harness error. -/
def hostPoke (a : Word) (v : Byte) (s : State) : Option State :=
  if isStore a.toNat then some (storeByte a v s)
  else
    match regionOf a with
    | .ie => some { s with ie := v }
    | .regBank => if a = 0xFF0F#16 then some { s with intFlag := v.setWidth 5 } else none
    | _ => none

/-- `HostPeek(addr)` (R196); `none` where a `MemRead` would fault. The audio device is shown nothing. -/
def hostPeek (a : Word) (s : State) : Option Byte := if s.accessible a then some (s.busValue a) else none

/-- `HostStep()` (R192, R197): the machine after one step, and the step's cost in M-cycles or the fault it raised. -/
def hostStep (s : State) : State × Except Fault Nat :=
  match step s with
  | .next t =>
    match t.fault with
    | some f => (t, .error f)
    | none => (t, .ok (t.cycles - s.cycles))
  | .fault f => (s, .error f)
  | .refused _ => (s, .ok 0)

/-- What `HostGetRegs()` returns (R198). -/
structure HostView where
  a         : Byte
  f         : Byte
  b         : Byte
  c         : Byte
  d         : Byte
  e         : Byte
  h         : Byte
  l         : Byte
  sp        : Word
  pc        : Word
  ime       : Bool
  eiPending : Bool
  halted    : Bool
  haltBug   : Bool
  fault     : Option Fault
  cycles    : Nat
  deriving DecidableEq, Repr

/-- `HostGetRegs()` (R198). -/
def hostGetRegs (s : State) : HostView :=
  { a := s.regs.a, f := s.regs.flags.toByte, b := s.regs.b, c := s.regs.c, d := s.regs.d, e := s.regs.e,
    h := s.regs.h, l := s.regs.l, sp := s.regs.sp, pc := s.regs.pc, ime := s.ime, eiPending := s.eiPending,
    halted := s.halted, haltBug := s.haltBug, fault := s.fault, cycles := s.cycles }

end Sys2Proof.Machine
end

