-- ==== Sys2Proof/Safety.lean ====
section
/-! DEFINITION. The terms in which claims are made: the invariant that every step keeps; what bus cycles leave when
nothing faults; for each form of instruction, what its rule says it writes, which addresses it accesses and how many
M-cycles it takes; and closed forms of what the peripherals do over many ticks. The tables per form are read from the
`Flags` and `Pseudocode` lines of the rules and from R720 and R721, not from the meanings. -/

namespace Sys2Proof.Machine

open Sys2Proof

/-! ## The invariant -/

/-- The ranges of the video unit's state (R71), and how its mode goes with its position (R562 to R569). -/
structure PpuInv (p : Ppu) : Prop where
  ly_lt        : p.ly < 154
  dot_lt       : p.dot < 456
  vblank_iff   : p.mode = .vblank ↔ 144 ≤ p.ly
  scan_dot     : p.mode = .oamScan → p.dot < 80
  draw_dot     : p.mode = .draw → 80 ≤ p.dot
  draw_x       : p.mode = .draw → p.x < 160
  x_le         : p.x ≤ 160
  tile_pdot    : p.fetch.phase = .tile → p.fetch.pdot < 2
  pdot_le      : p.fetch.pdot ≤ 4
  discard_lt   : p.discard < 8
  fifo_le      : p.bgFifo.length ≤ 16
  sprites_le   : p.spriteBuf.length ≤ 10
  sprite_fifo  : p.spriteFifo = []

/-- The invariant of the machine: memory in its canonical form with only store addresses listed, and the video unit's
ranges. -/
structure State.Inv (s : State) : Prop where
  mem_wf     : s.mem.wf = true
  mem_stores : s.mem.onlyStores = true
  ppu        : PpuInv s.ppu

/-- The step executes an instruction: no fault, no dispatch, no halted wait (R180 to R182). -/
abbrev State.Executes (s : State) : Prop :=
  s.fault = none ∧ s.acceptsInterrupt = false ∧ s.idles = false

/-! ## Bus cycles in which nothing faults -/

/-- The machine after one tick. -/
def State.ticked (s : State) : State := (busTick s).state

/-- The machine after `n` ticks. -/
def State.ticks (n : Nat) (s : State) : State :=
  match n with
  | 0 => s
  | n + 1 => State.ticks n s.ticked

/-- What a read cycle of an accessible address returns: the value after the tick (R122). -/
def State.readValue (s : State) (a : Word) : Byte := s.ticked.busValue a

/-- The machine after a read cycle. -/
def State.afterRead (s : State) (a : Word) : State := s.ticked.noteRead a

/-- The machine after a write cycle. -/
def State.afterWrite (s : State) (a : Word) (v : Byte) : State := s.ticked.busStore a v

/-- The machine after the two write cycles of a push: the high byte at SP-1, the low byte at SP-2 (R260). -/
def State.afterPush (s : State) (v : Word) : State :=
  (((s.setSP (s.sp - 1)).afterWrite (s.sp - 1) (hiByte v)).setSP (s.sp - 2)).afterWrite (s.sp - 2) (loByte v)

/-- The machine after the two read cycles of a pop, SP moved by 2 (R260). -/
def State.afterPop (s : State) : State :=
  (((s.afterRead s.sp).setSP (s.sp + 1)).afterRead (s.sp + 1)).setSP (s.sp + 2)

/-- The value of a pop: the low byte from SP, then the high byte from SP+1, each in its own cycle (R260). -/
def State.popValue (s : State) : Word :=
  ofBytes (((s.afterRead s.sp).setSP (s.sp + 1)).readValue (s.sp + 1)) (s.readValue s.sp)

/-- The three bytes that memory lists from PC on. -/
def State.codeBytes (s : State) : List Byte :=
  [s.mem.read s.pc.toNat, s.mem.read (s.pc + 1).toNat, s.mem.read (s.pc + 2).toNat]

/-- The two addresses of a push. -/
def State.pushAddrs (s : State) : List Word := [s.sp - 1, s.sp - 2]

/-- The two addresses of a pop. -/
def State.popAddrs (s : State) : List Word := [s.sp, s.sp + 1]

/-! ## What an instruction does, in the words of a rule -/

/-- `i` reads the byte at `a` and leaves it in `dst`, and does nothing else but its cycle. -/
def LoadsFrom (i : Instr) (s : State) (dst : R8) (a : Word) : Prop :=
  s.accessible a = true → exec i s = .next ((s.afterRead a).setR8 dst (s.readValue a))

/-- `i` writes `v` to `a`, and does nothing else but its cycle. -/
def StoresTo (i : Instr) (s : State) (a : Word) (v : Byte) : Prop :=
  s.accessible a = true → exec i s = .next (s.afterWrite a v)

/-- `i` calls `target`: an internal cycle, the return address pushed, then the jump. -/
def Calls (i : Instr) (s : State) (target : Word) : Prop :=
  (∀ a ∈ s.pushAddrs, s.accessible a = true) →
    exec i s = .next ((s.ticked.afterPush s.pc).setPC target)

end Sys2Proof.Machine

namespace Sys2Proof

open Sys2Proof.Machine

/-! ## What the rule of a form says it writes -/

/-- The halves of a pair; SP has none (R41). -/
def halves (rr : R16) : List R8 :=
  match rr with
  | .bc => [.b, .c]
  | .de => [.d, .e]
  | .hl => [.h, .l]
  | .sp => []

/-- The registers that a POP writes beside the flags (R265, R266). -/
def stkHalves (rr : R16Stk) : List R8 :=
  match rr with
  | .bc => [.b, .c]
  | .de => [.d, .e]
  | .hl => [.h, .l]
  | .af => [.a]

/-- The registers among A, B, C, D, E, H and L that a form writes. -/
def Form.writes (f : Form) : List R8 :=
  match f with
  | .ldRegReg dst _ | .ldRegImm dst _ | .ldRegAtHl dst => [dst]
  | .ldAAtBc | .ldAAtDe | .ldAAtNn _ | .ldhAAtN _ | .ldAAtC => [.a]
  | .ldAAtHlInc | .ldAAtHlDec => [.a, .h, .l]
  | .ldAtHlIncA | .ldAtHlDecA | .ldHlSpE _ | .addHl _ => [.h, .l]
  | .ldPairImm rr _ | .incPair rr | .decPair rr => halves rr
  | .pop rr => stkHalves rr
  | .aluReg op _ | .aluAtHl op | .aluImm op _ => if op = .cp then [] else [.a]
  | .incReg r | .decReg r | .rotReg _ r | .resReg _ r | .setReg _ r => [r]
  | .daa | .cpl | .rlca | .rrca | .rla | .rra => [.a]
  | .ldAtHlReg _ | .ldAtHlImm _ | .ldAtBcA | .ldAtDeA | .ldAtNnA _ | .ldhAtNA _ | .ldAtCA | .ldAtNnSp _
  | .ldSpHl | .push _ | .incAtHl | .decAtHl | .scf | .ccf | .addSpE _ | .rotAtHl _ | .bitReg _ _ | .bitAtHl _
  | .resAtHl _ | .setAtHl _ | .jp _ | .jpCond _ _ | .jpHl | .jr _ | .jrCond _ _ | .call _ | .callCond _ _ | .ret
  | .retCond _ | .reti | .rst _ | .nop | .halt | .stop | .di | .ei | .illegal _ | .prefixCb => []

/-- The forms that write SP (R46). -/
def Form.writesSp (f : Form) : Bool :=
  match f with
  | .ldPairImm rr _ | .incPair rr | .decPair rr => decide (rr = .sp)
  | .ldSpHl | .push _ | .pop _ | .addSpE _ | .call _ | .callCond _ _ | .ret | .retCond _ | .reti | .rst _ => true
  | _ => false

/-- The forms that write PC after their bytes are fetched (R47, 47_control). -/
def Form.writesPc (f : Form) : Bool :=
  match f with
  | .jp _ | .jpCond _ _ | .jpHl | .jr _ | .jrCond _ _ | .call _ | .callCond _ _ | .ret | .retCond _ | .reti
  | .rst _ => true
  | _ => false

/-- The flags that a form writes, as a mask. -/
def Form.writesFlags (f : Form) : Flags :=
  match f with
  | .aluReg _ _ | .aluAtHl _ | .aluImm _ _ | .addSpE _ | .ldHlSpE _ | .rlca | .rrca | .rla | .rra | .rotReg _ _
  | .rotAtHl _ => ⟨true, true, true, true⟩
  | .pop rr => if rr = .af then ⟨true, true, true, true⟩ else ⟨false, false, false, false⟩
  | .incReg _ | .incAtHl | .decReg _ | .decAtHl | .bitReg _ _ | .bitAtHl _ => ⟨true, true, true, false⟩
  | .daa => ⟨true, false, true, true⟩
  | .cpl => ⟨false, true, true, false⟩
  | .scf | .ccf | .addHl _ => ⟨false, true, true, true⟩
  | _ => ⟨false, false, false, false⟩

/-- Whether a form with a condition is taken; one without always is (R410). -/
def Form.taken (f : Form) (flags : Flags) : Bool :=
  match f with
  | .jpCond cc _ | .jrCond cc _ | .callCond cc _ | .retCond cc => flags.holds cc
  | _ => true

/-- The addresses that a form stores to in state `s`, in order. -/
def Form.stores (f : Form) (s : State) : List Word :=
  match f with
  | .ldAtHlReg _ | .ldAtHlImm _ | .ldAtHlIncA | .ldAtHlDecA | .incAtHl | .decAtHl | .rotAtHl _ | .resAtHl _
  | .setAtHl _ => [s.r16 .hl]
  | .ldAtBcA => [s.r16 .bc]
  | .ldAtDeA => [s.r16 .de]
  | .ldAtNnA nn => [nn]
  | .ldhAtNA n => [highPage n]
  | .ldAtCA => [highPage (s.r8 .c)]
  | .ldAtNnSp nn => [nn, nn + 1]
  | .push _ | .call _ | .rst _ => s.pushAddrs
  | .callCond cc _ => if s.flags.holds cc then s.pushAddrs else []
  | _ => []

/-- The addresses that a form reads in state `s` after its own bytes, in order. -/
def Form.reads (f : Form) (s : State) : List Word :=
  match f with
  | .ldRegAtHl _ | .ldAAtHlInc | .ldAAtHlDec | .aluAtHl _ | .incAtHl | .decAtHl | .rotAtHl _ | .bitAtHl _
  | .resAtHl _ | .setAtHl _ => [s.r16 .hl]
  | .ldAAtBc => [s.r16 .bc]
  | .ldAAtDe => [s.r16 .de]
  | .ldAAtNn nn => [nn]
  | .ldhAAtN n => [highPage n]
  | .ldAAtC => [highPage (s.r8 .c)]
  | .pop _ | .ret | .reti => s.popAddrs
  | .retCond cc => if s.flags.holds cc then s.popAddrs else []
  | _ => []

/-- The forms whose rule is a fault: STOP (R453) and the unassigned opcodes (R456). -/
def Form.isFault (f : Form) : Bool :=
  match f with
  | .stop | .illegal _ => true
  | _ => false

/-- Every address that `i` accesses in state `s` decodes to a row that does not fault. -/
def AccessesAllowed (i : Instr) (s : State) : Prop :=
  ∀ a ∈ i.form.reads s ++ i.form.stores s, s.accessible a = true

/-! ## What an instruction costs -/

/-- R720: the M-cycles of each primary opcode, not taken and taken; row = high nibble, column = low nibble. A faulting
opcode has its one fetch; the entry of the escape byte is not used (R721). -/
def primaryCosts : Vector (Vector (Nat × Nat) 16) 16 :=
  #v[
    #v[ (1, 1), (3, 3), (2, 2), (2, 2), (1, 1), (1, 1), (2, 2), (1, 1),
        (5, 5), (2, 2), (2, 2), (2, 2), (1, 1), (1, 1), (2, 2), (1, 1) ],
    #v[ (1, 1), (3, 3), (2, 2), (2, 2), (1, 1), (1, 1), (2, 2), (1, 1),
        (3, 3), (2, 2), (2, 2), (2, 2), (1, 1), (1, 1), (2, 2), (1, 1) ],
    #v[ (2, 3), (3, 3), (2, 2), (2, 2), (1, 1), (1, 1), (2, 2), (1, 1),
        (2, 3), (2, 2), (2, 2), (2, 2), (1, 1), (1, 1), (2, 2), (1, 1) ],
    #v[ (2, 3), (3, 3), (2, 2), (2, 2), (3, 3), (3, 3), (3, 3), (1, 1),
        (2, 3), (2, 2), (2, 2), (2, 2), (1, 1), (1, 1), (2, 2), (1, 1) ],
    #v[ (1, 1), (1, 1), (1, 1), (1, 1), (1, 1), (1, 1), (2, 2), (1, 1),
        (1, 1), (1, 1), (1, 1), (1, 1), (1, 1), (1, 1), (2, 2), (1, 1) ],
    #v[ (1, 1), (1, 1), (1, 1), (1, 1), (1, 1), (1, 1), (2, 2), (1, 1),
        (1, 1), (1, 1), (1, 1), (1, 1), (1, 1), (1, 1), (2, 2), (1, 1) ],
    #v[ (1, 1), (1, 1), (1, 1), (1, 1), (1, 1), (1, 1), (2, 2), (1, 1),
        (1, 1), (1, 1), (1, 1), (1, 1), (1, 1), (1, 1), (2, 2), (1, 1) ],
    #v[ (2, 2), (2, 2), (2, 2), (2, 2), (2, 2), (2, 2), (1, 1), (2, 2),
        (1, 1), (1, 1), (1, 1), (1, 1), (1, 1), (1, 1), (2, 2), (1, 1) ],
    #v[ (1, 1), (1, 1), (1, 1), (1, 1), (1, 1), (1, 1), (2, 2), (1, 1),
        (1, 1), (1, 1), (1, 1), (1, 1), (1, 1), (1, 1), (2, 2), (1, 1) ],
    #v[ (1, 1), (1, 1), (1, 1), (1, 1), (1, 1), (1, 1), (2, 2), (1, 1),
        (1, 1), (1, 1), (1, 1), (1, 1), (1, 1), (1, 1), (2, 2), (1, 1) ],
    #v[ (1, 1), (1, 1), (1, 1), (1, 1), (1, 1), (1, 1), (2, 2), (1, 1),
        (1, 1), (1, 1), (1, 1), (1, 1), (1, 1), (1, 1), (2, 2), (1, 1) ],
    #v[ (1, 1), (1, 1), (1, 1), (1, 1), (1, 1), (1, 1), (2, 2), (1, 1),
        (1, 1), (1, 1), (1, 1), (1, 1), (1, 1), (1, 1), (2, 2), (1, 1) ],
    #v[ (2, 5), (3, 3), (3, 4), (4, 4), (3, 6), (4, 4), (2, 2), (4, 4),
        (2, 5), (4, 4), (3, 4), (0, 0), (3, 6), (6, 6), (2, 2), (4, 4) ],
    #v[ (2, 5), (3, 3), (3, 4), (1, 1), (3, 6), (4, 4), (2, 2), (4, 4),
        (2, 5), (4, 4), (3, 4), (1, 1), (3, 6), (1, 1), (2, 2), (4, 4) ],
    #v[ (3, 3), (3, 3), (2, 2), (1, 1), (1, 1), (4, 4), (2, 2), (4, 4),
        (4, 4), (1, 1), (4, 4), (1, 1), (1, 1), (1, 1), (2, 2), (4, 4) ],
    #v[ (3, 3), (3, 3), (2, 2), (1, 1), (1, 1), (4, 4), (2, 2), (4, 4),
        (3, 3), (2, 2), (4, 4), (1, 1), (1, 1), (1, 1), (2, 2), (4, 4) ] ]

/-- R721: the M-cycles of a secondary instruction, from the block and the operand field of `op2`. -/
def secondaryCost (op2 : Byte) : Nat :=
  if op2.toNat % 8 ≠ 6 then 2 else if op2.toNat / 64 = 1 then 3 else 4

/-- The M-cycles of a whole instruction (R720, R721). -/
def Instr.cost (i : Instr) (taken : Bool) : Nat :=
  match encode i with
  | [] => 0
  | op :: rest =>
    if op = escapeByte then secondaryCost (rest.headD 0)
    else
      let c := (primaryCosts.get (hiNibble op)).get (loNibble op)
      if taken then c.2 else c.1

end Sys2Proof

namespace Sys2Proof.Machine

/-! ## The peripherals over many ticks -/

/-- The timer after `n` ticks, and whether TIMA overflowed in one of them. -/
def Timer.run (n : Nat) (t : Timer) : Timer × Bool :=
  match n with
  | 0 => (t, false)
  | n + 1 =>
    let r := t.tick
    let q := Timer.run n r.1
    (q.1, r.2 || q.2)

/-- The M-cycles between two counts of TIMA (the table of R60). -/
def Timer.period (sel : BitVec 2) : Nat :=
  match sel.toNat with
  | 0 => 256
  | 1 => 4
  | 2 => 16
  | _ => 64

/-- The PPU before a run of dots. -/
def PpuRun.start (p : Ppu) : PpuRun := { ppu := p, vblank := false, fault := none }

/-- The position in the frame, in dots from the start of line 0 (R571). -/
def Ppu.position (p : Ppu) : Nat := 456 * p.ly + p.dot

/-- An OAM entry that meets the line of `p` (R563). -/
def Ppu.meetsLine (p : Ppu) (e : Sprite) : Bool :=
  decide (0 < e.x.toNat ∧ e.y.toNat ≤ p.ly + 16 ∧ p.ly + 16 < e.y.toNat + p.spriteHeight)

/-- The colour index that the background has at column `x` of the line of `p`: the tile map entry of the scrolled
position, the tile's row, the bit of each plane (R566, R567). -/
def Ppu.background (m : Memory) (p : Ppu) (x : Nat) : Shade :=
  let row := (p.ly + p.scy.toNat) % 256
  let col := p.scx.toNat + x
  let base := if p.lcdc.getLsbD 3 then 0x9C00 else 0x9800
  let tile := m.read (base + 32 * (row / 8) + col / 8 % 32)
  let addr :=
    if p.lcdc.getLsbD 4 then 0x8000 + 16 * tile.toNat + 2 * (row % 8)
    else ((0x9000 : Int) + 16 * tile.toInt + 2 * ((row % 8 : Nat) : Int)).toNat
  let bit := 7 - col % 8
  BitVec.ofNat 2
    ((if (m.read (addr + 1)).getLsbD bit then 2 else 0) + (if (m.read addr).getLsbD bit then 1 else 0))

/-- The shade that is written at column `x` of the line of `p` (R568). -/
def Ppu.expectedShade (m : Memory) (p : Ppu) (x : Nat) : Shade :=
  if p.lcdc.getLsbD 0 then p.shade (p.background m x) else 0

end Sys2Proof.Machine
end

