-- ==== Sys2Proof/Certificates/Slice0/Obligations.lean ====
section
/-! DEFINITION. The statements for the provers. Each docstring names the rules it rests on. A statement says `s.Inv` only
where the video unit's checks (R572) could otherwise stop a tick; that invariant is itself stated, at power-on
(`EveryLaunchMeetsInvariant`) and for every step (`EveryStepKeepsInvariant`). -/

open Sys2Proof Sys2Proof.Machine

/-! ## Encoding -/

/-- R140 to R157: decoding the bytes of a whole instruction gives it back, every operand at every value, whatever bytes
follow. -/
def Obligations.EncodedInstructionDecodesToItself : Prop :=
  ∀ (i : Instr) (rest : List Byte), i.WellFormed → decode (encode i ++ rest) = .ok (i, rest)

/-- R140, R149, R152: no bit of an instruction is dropped: what decodes is the encoding of what it decodes to. -/
def Obligations.DecodedBytesAreTheEncoding : Prop :=
  ∀ (bytes : List Byte) (i : Instr) (rest : List Byte), decode bytes = .ok (i, rest) → bytes = encode i ++ rest

/-- R187, R189, R157: dispatch is total, the first byte alone gives the length, and the unassigned opcodes and STOP are
the only faulting entries. -/
def Obligations.EveryByteSelectsOneInstruction : Prop :=
  ∀ (b0 b1 b2 : Byte) (rest : List Byte), ∃ i : Instr, i.WellFormed ∧
    decode (b0 :: b1 :: b2 :: rest) = .ok (i, (b0 :: b1 :: b2 :: rest).drop (instrLength b0)) ∧
    (encode i).length = instrLength b0 ∧
    (i.form = .illegal b0 ↔
      b0 ∈ [0xD3#8, 0xDB, 0xDD, 0xE3, 0xE4, 0xEB, 0xEC, 0xED, 0xF4, 0xFC, 0xFD]) ∧
    (i.form = .stop ↔ b0 = 0x10)

/-- R149, R152, R160: words written out from the spec's tables decode to the instructions they stand for. -/
def Obligations.SampleWordsDecode : Prop :=
  decode [0b01_000_001#8] = .ok (.ld_B_C, []) ∧
  decode [0b00_111_110#8, 0x5A] = .ok (.ld_A_n 0x5A, []) ∧
  decode [0b00_10_0001#8, 0x34, 0x12] = .ok (.ld_HL_nn 0x1234, []) ∧
  decode [0b11_11_0101#8] = .ok (.push_AF, []) ∧
  decode [0b10_011_100#8] = .ok (.sbc_A_H, []) ∧
  decode [0b11_101_110#8, 0x0F] = .ok (.xor_A_n 0x0F, []) ∧
  decode [0b00_11_1001#8] = .ok (.add_HL_SP, []) ∧
  decode [0b00_010_111#8] = .ok (.rla, []) ∧
  decode [0xCB#8, 0b00_011_110] = .ok (.rr_atHL, []) ∧
  decode [0xCB#8, 0b01_111_100] = .ok (.bit_7_H, []) ∧
  decode [0b110_11_010#8, 0x00, 0x20] = .ok (.jp_C_nn 0x2000, []) ∧
  decode [0b001_00_000#8, 0x05] = .ok (.jr_NZ_e 0x05, []) ∧
  decode [0b11_101_111#8] = .ok (.rst_28, []) ∧
  decode [0b01_110_110#8] = .ok (.halt, []) ∧
  decode [0xE4#8] = .ok (.illegal_E4, [])

/-! ## The step -/

/-- R180, R183: a step that executes runs exactly the instruction it fetches, and then lets a delayed EI take effect; a
fetch that faults ends the step, in a next state that records the fault: the model's choice (log entry 3). -/
def Obligations.StepRunsTheFetchedInstruction : Prop :=
  ∀ s : State, s.Executes →
    (∀ i t, fetchInstr (wake (beginStep s)) = .ok i t → step s = endInstruction s.eiPending (exec i t)) ∧
    (∀ t, fetchInstr (wake (beginStep s)) = .stop t → step s = .next t)

/-- R47, R183 to R185, R121: when the bytes at PC lie in stores and decode to `i`, the step ticks once for each byte of
`i`, moves PC past them and is then `exec i`. -/
def Obligations.StepRunsTheInstructionInMemory : Prop :=
  ∀ (s : State) (i : Instr) (rest : List Byte), s.Inv → s.Executes → s.haltBug = false →
    decode s.codeBytes = .ok (i, rest) →
    (∀ k < (encode i).length, isStore (s.pc + BitVec.ofNat 16 k).toNat = true) →
    step s = endInstruction s.eiPending
      (exec i ((State.ticks (encode i).length (wake (beginStep s))).setPC
        (s.pc + BitVec.ofNat 16 (encode i).length)))

/-- R186: the opcode fetch is one read cycle at PC; it advances PC unless `haltBug` is set, which it then clears. With the
parameter `HALT_BUG` false, `haltBug` is never set. -/
def Obligations.OpcodeFetchHonoursHaltBug : Prop :=
  (∀ s : State, s.Inv → s.accessible s.pc = true →
    fetchOpcode s = .ok (s.readValue s.pc)
      (if s.haltBug then { s.afterRead s.pc with haltBug := false } else (s.afterRead s.pc).setPC (s.pc + 1))) ∧
  (∀ s t : State, s.params.haltBug = false → s.haltBug = false → step s = .next t → t.haltBug = false)

/-- R188, R721: the escape entry reads one more byte at PC, moves PC past it and is then the secondary instruction that
the byte selects; it completes where that instruction does. -/
def Obligations.EscapeEntryRunsSecondary : Prop :=
  ∀ s : State, s.Inv → s.fault = none → s.accessible s.pc = true →
    let j := secondary (s.readValue s.pc)
    let s' := (s.afterRead s.pc).setPC (s.pc + 1)
    exec .prefixCB s = exec j s' ∧
    (AccessesAllowed j s' →
      ∃ t, exec .prefixCB s = .next t ∧ t.fault = none ∧ t.Inv ∧
        t.cycles + 1 = s.cycles + secondaryCost (s.readValue s.pc))

/-- R182: a halted step with nothing pending is one tick and nothing else, but for the step's own latch of PC, which is the
model's (log entry 4); with a request pending and IME=0 the CPU wakes and executes the instruction at PC in the same
step. -/
def Obligations.HaltedStepIdlesOrWakes : Prop :=
  ∀ s : State, s.fault = none → s.halted = true →
    (s.Inv → s.pending = false →
      step s = .next (beginStep s).ticked ∧
      (beginStep s).ticked.cycles = s.cycles + 1 ∧ (beginStep s).ticked.regs = s.regs ∧
      (beginStep s).ticked.mem = s.mem ∧ (beginStep s).ticked.halted = true) ∧
    (s.pending = true → s.ime = false → step s = step { s with halted := false })

/-- R53, R193, R500, R702: a fault ends the machine: no step follows, and the fault stays. How `step` and the harness answer
for it is the model's (log entries 3 and 13). -/
def Obligations.FaultEndsTheRun : Prop :=
  ∀ (s : State) (f : Fault), s.fault = some f → step s = .fault f ∧ hostStep s = (s, .error f)

/-! ## Interrupts and IME -/

/-- R507, R509, R505: a request is pending exactly when a source 0 to 4 is both enabled and requested (IE bits 7 to 5 do
not count); the source served is pending and no lower one is; its vector is 0x0040 + 8k. -/
def Obligations.LowestPendingSourceIsChosen : Prop :=
  ∀ s : State,
    (s.pending = true ↔ ∃ k : Nat, k < 5 ∧ s.ie.getLsbD k = true ∧ s.intFlag.getLsbD k = true) ∧
    (s.pending = true →
      s.ie.getLsbD s.chosenSource.val = true ∧ s.intFlag.getLsbD s.chosenSource.val = true ∧
      (∀ k < s.chosenSource.val, ¬ (s.ie.getLsbD k = true ∧ s.intFlag.getLsbD k = true)) ∧
      (interruptVector s.chosenSource).toNat = 0x40 + 8 * s.chosenSource.val)

/-- R508, R510, R511: with IME=1 and a request pending, the step is the dispatch of the lowest pending source `k`. Its IF
bit, IME, `eiPending`, `halted` and `haltBug` are cleared at its start; two internal cycles, the return address pushed,
one internal cycle; PC at 0x0040 + 8k. Under the halt bug the return address is PC - 1, that of the HALT. Where a push may
not be accessed, the dispatch ends there in that access's fault, PC not yet moved (R502, R503, R514). That the fault is a
next state, the PC it names and SP at the second push are the model's (log entries 3, 4 and 16). -/
def Obligations.InterruptDispatchStep : Prop :=
  ∀ (s : State) (k : Fin 5), s.Inv → s.fault = none → s.ime = true →
    s.ie.getLsbD k.val = true → s.intFlag.getLsbD k.val = true →
    (∀ j < k.val, ¬ (s.ie.getLsbD j = true ∧ s.intFlag.getLsbD j = true)) →
    let started : State :=
      { s with opPC := s.pc, ime := false, eiPending := false, halted := false, haltBug := false,
               intFlag := s.intFlag &&& ~~~(1#5 <<< k.val) }
    (s.accessible (s.sp - 1) = true → s.accessible (s.sp - 2) = true →
      ∃ t, step s = .next t ∧ t.fault = none ∧
        t = (((State.ticks 2 started).afterPush (if s.haltBug then s.pc - 1 else s.pc)).ticked).setPC
              (BitVec.ofNat 16 (0x0040 + 8 * k.val)) ∧
        t.cycles = s.cycles + 5 ∧ t.sp = s.sp - 2 ∧ t.flags = s.flags ∧ (∀ r, t.r8 r = s.r8 r) ∧
        t.ime = false ∧ t.eiPending = false ∧ t.halted = false ∧ t.haltBug = false) ∧
    (s.accessible (s.sp - 1) = false →
      ∃ t, step s = .next t ∧ t.fault = some (.decodeFault (s.sp - 1) .write s.pc) ∧
        t.cycles = s.cycles + 3 ∧ t.sp = s.sp - 1 ∧ t.pc = s.pc ∧ t.mem = s.mem ∧ t.ime = false) ∧
    (s.accessible (s.sp - 1) = true → s.accessible (s.sp - 2) = false →
      ∃ t, step s = .next t ∧ t.fault = some (.decodeFault (s.sp - 2) .write s.pc) ∧
        t.cycles = s.cycles + 4 ∧ t.sp = s.sp - 2 ∧ t.pc = s.pc ∧ t.ime = false)

/-- R181, R508, R48: a step changes IME only by an interrupt dispatch, by a delayed EI, by DI or by RETI. -/
def Obligations.ImeChangesOnlyAsListed : Prop :=
  ∀ s t : State, step s = .next t → t.ime ≠ s.ime →
    s.acceptsInterrupt = true ∨ s.eiPending = true ∨
      ∃ i u, fetchInstr (wake (beginStep s)) = .ok i u ∧ (i = .di ∨ i = .reti)

/-- R190, R183: at the end of an instruction IME becomes 1 and `eiPending` 0 exactly when `eiPending` was 1 when it began
and still is; nothing else changes. -/
def Obligations.DelayedEnableIsApplied : Prop :=
  ∀ (s : State) (i : Instr) (t u : State), s.Executes →
    fetchInstr (wake (beginStep s)) = .ok i t → exec i t = .next u → u.fault = none →
    step s = .next { u with ime := u.ime || (s.eiPending && u.eiPending),
                            eiPending := u.eiPending && !s.eiPending }

/-- R190, R455, R710: after EI with IME=0 no interrupt is taken before the next instruction has completed; then IME is
1, unless that instruction is DI. -/
def Obligations.EnableIsDelayedByOneInstruction : Prop :=
  ∀ (s a t : State), s.Executes → s.ime = false → s.eiPending = false →
    fetchInstr (wake (beginStep s)) = .ok .ei a → step s = .next t →
    t.ime = false ∧ t.Executes ∧
    ∀ (i : Instr) (b u : State), fetchInstr (wake (beginStep t)) = .ok i b →
      step t = .next u → u.fault = none → u.ime = decide (i ≠ .di)

/-! ## The register file -/

/-- R40, R41, R43, R44: F is the four flags in bits 7 to 4 and zeros below, and a write of a byte to F keeps its high
nibble; a pair and its halves are one storage, for BC, DE, HL and AF. -/
def Obligations.RegisterFileLayout : Prop :=
  (∀ f : Flags, f.toByte.getLsbD 7 = f.z ∧ f.toByte.getLsbD 6 = f.n ∧ f.toByte.getLsbD 5 = f.h ∧
    f.toByte.getLsbD 4 = f.c ∧ f.toByte &&& 0x0F = 0) ∧
  (∀ v : Byte, (Flags.ofByte v).toByte = v &&& 0xF0) ∧
  (∀ (s : State) (v : Word),
    ((s.setR16 .bc v).r8 .b = hiByte v ∧ (s.setR16 .bc v).r8 .c = loByte v ∧ s.r16 .bc = ofBytes (s.r8 .b) (s.r8 .c)) ∧
    ((s.setR16 .de v).r8 .d = hiByte v ∧ (s.setR16 .de v).r8 .e = loByte v ∧ s.r16 .de = ofBytes (s.r8 .d) (s.r8 .e)) ∧
    ((s.setR16 .hl v).r8 .h = hiByte v ∧ (s.setR16 .hl v).r8 .l = loByte v ∧ s.r16 .hl = ofBytes (s.r8 .h) (s.r8 .l)) ∧
    ((s.setStk .af v).r8 .a = hiByte v ∧ (s.setStk .af v).flags.toByte = loByte v &&& 0xF0 ∧
      s.stk .af = ofBytes (s.r8 .a) s.flags.toByte))

/-! ## The bus -/

/-- R101, R102, R118, R122: a tick is one M-cycle; it advances the timer, the audio device and the PPU, records their
requests, and changes nothing else. A bus access ticks first and then decodes its address; a read changes nothing else in
the core. A fault in the tick leaves the access out; a decode fault keeps the tick. In a machine that meets the invariant
no tick faults. The audio device's history, and the PC that a fault names, are the model's (log entries 2 and 4). -/
def Obligations.BusCycleTicksThenAccesses : Prop :=
  ∀ (s : State) (a : Word) (v : Byte),
    let t : State := { s with
      cycles := s.cycles + 1
      timer := s.timer.tick.1
      audio := { s.audio with ticks := s.audio.ticks + 1 }
      ppu := (s.ppu.tick s.mem).ppu
      intFlag := s.intFlag ||| (if s.timer.tick.2 then 0b00100 else 0) |||
        (if (s.ppu.tick s.mem).vblank then 0b00001 else 0) }
    (s.Inv → (s.ppu.tick s.mem).fault = none) ∧
    ((s.ppu.tick s.mem).fault = none →
      tick s = .ok () t ∧
      (s.accessible a = true →
        memRead a s = .ok (t.busValue a) (t.noteRead a) ∧ memWrite a v s = .ok () (t.busStore a v) ∧
        { t.noteRead a with audio := t.audio } = t) ∧
      (s.accessible a = false →
        memRead a s = .stop { t with fault := some (.decodeFault a .read s.opPC) } ∧
        memWrite a v s = .stop { t with fault := some (.decodeFault a .write s.opPC) })) ∧
    (∀ f, (s.ppu.tick s.mem).fault = some f →
      tick s = .stop { t with fault := some f } ∧ memRead a s = .stop { t with fault := some f } ∧
      memWrite a v s = .stop { t with fault := some f })

/-- R103 to R108, R111 to R114: what a read of each row of the address map returns and what a write to it does, the
register bank apart. -/
def Obligations.AddressMapRows : Prop :=
  ∀ (s : State) (a : Word) (v : Byte),
    let stored : Res Unit := .ok () { s with mem := s.mem.write a.toNat v }
    (a.toNat ≤ 0x7FFF → decodeRead a s = .ok (s.mem.read a.toNat) s ∧
      decodeWrite a v s = if s.params.testMode then stored else .ok () s) ∧
    (0x8000 ≤ a.toNat → a.toNat ≤ 0x9FFF → decodeRead a s = .ok (s.mem.read a.toNat) s ∧ decodeWrite a v s = stored) ∧
    (0xA000 ≤ a.toNat → a.toNat ≤ 0xBFFF → decodeRead a s = .ok 0xFF s ∧ decodeWrite a v s = .ok () s) ∧
    (0xC000 ≤ a.toNat → a.toNat ≤ 0xDFFF → decodeRead a s = .ok (s.mem.read a.toNat) s ∧ decodeWrite a v s = stored) ∧
    (0xE000 ≤ a.toNat → a.toNat ≤ 0xFDFF → decodeRead a s = .ok 0xFF s ∧ decodeWrite a v s = .ok () s) ∧
    (0xFE00 ≤ a.toNat → a.toNat ≤ 0xFE9F → decodeRead a s = .ok (s.mem.read a.toNat) s ∧ decodeWrite a v s = stored) ∧
    (0xFEA0 ≤ a.toNat → a.toNat ≤ 0xFEFF → decodeRead a s = .ok 0xFF s ∧ decodeWrite a v s = .ok () s) ∧
    (0xFF80 ≤ a.toNat → a.toNat ≤ 0xFFFE → decodeRead a s = .ok (s.mem.read a.toNat) s ∧ decodeWrite a v s = stored) ∧
    (a.toNat = 0xFFFF → decodeRead a s = .ok s.ie s ∧ decodeWrite a v s = .ok () { s with ie := v })

/-- R109, R118, R55 to R67: what a read of each register of the default map returns and what a write to it does. DIV and
TAC have the edge checks of R531 and R535, LCDC the transitions of R561; the audio device is shown every access. The
device's history and its free answers are the model's (log entry 2). -/
def Obligations.RegisterBankReadsAndWrites : Prop :=
  ∀ (s : State) (v : Byte), s.params.regMap = Config.regMap →
    let shown (a : Word) (w : Option Byte) : State :=
      { s with audio := { s.audio with accesses := ⟨s.audio.ticks, a, w⟩ :: s.audio.accesses } }
    (decodeRead 0xFF04 s = .ok (s.timer.sysclk.extractLsb' 8 8) s ∧
      decodeWrite 0xFF04 v s = .ok () (applyTimer s.timer.writeDiv s)) ∧
    (decodeRead 0xFF05 s = .ok s.timer.tima s ∧
      decodeWrite 0xFF05 v s = .ok () { s with timer := { s.timer with tima := v } }) ∧
    (decodeRead 0xFF06 s = .ok s.timer.tma s ∧
      decodeWrite 0xFF06 v s = .ok () { s with timer := { s.timer with tma := v } }) ∧
    (decodeRead 0xFF07 s = .ok (0xF8 ||| s.timer.tac.setWidth 8) s ∧
      decodeWrite 0xFF07 v s = .ok () (applyTimer (s.timer.writeTac v) s)) ∧
    (decodeRead 0xFF0F s = .ok (0xE0 ||| s.intFlag.setWidth 8) s ∧
      decodeWrite 0xFF0F v s = .ok () { s with intFlag := v.setWidth 5 }) ∧
    (∀ a : Word, 0xFF10 ≤ a.toNat ∧ a.toNat ≤ 0xFF26 ∨ 0xFF30 ≤ a.toNat ∧ a.toNat ≤ 0xFF3F →
      decodeRead a s = .ok (Config.audioRead s.audio a) (shown a none) ∧
      decodeWrite a v s = .ok () (shown a (some v))) ∧
    (decodeRead 0xFF40 s = .ok s.ppu.lcdc s ∧
      decodeWrite 0xFF40 v s = .ok () { s with ppu := s.ppu.writeLcdc v }) ∧
    (decodeRead 0xFF42 s = .ok s.ppu.scy s ∧
      decodeWrite 0xFF42 v s = .ok () { s with ppu := { s.ppu with scy := v } }) ∧
    (decodeRead 0xFF43 s = .ok s.ppu.scx s ∧
      decodeWrite 0xFF43 v s = .ok () { s with ppu := { s.ppu with scx := v } }) ∧
    (decodeRead 0xFF44 s = .ok (BitVec.ofNat 8 s.ppu.ly) s ∧ decodeWrite 0xFF44 v s = .ok () s) ∧
    (decodeRead 0xFF47 s = .ok s.ppu.bgp s ∧
      decodeWrite 0xFF47 v s = .ok () { s with ppu := { s.ppu with bgp := v } })

/-- R110, R503, R114, R68: an access to an unassigned register-bank address faults after its tick, and changes nothing
else; with the default map those addresses are the listed ones, and no other address ever faults. The latched PC that the
fault names is the model's (log entry 4). -/
def Obligations.UnassignedRegisterFaults : Prop :=
  (∀ (s : State) (a : Word) (v : Byte), s.Inv → 0xFF00 ≤ a.toNat → a.toNat ≤ 0xFF7F →
    (∀ row ∈ s.params.regMap, ¬ (row.lo ≤ a.toNat ∧ a.toNat ≤ row.hi)) →
    memRead a s = .stop { s.ticked with fault := some (.decodeFault a .read s.opPC) } ∧
    memWrite a v s = .stop { s.ticked with fault := some (.decodeFault a .write s.opPC) }) ∧
  (∀ (s : State) (a : Word), s.accessible a = false ↔
    0xFF00 ≤ a.toNat ∧ a.toNat ≤ 0xFF7F ∧ ∀ row ∈ s.params.regMap, ¬ (row.lo ≤ a.toNat ∧ a.toNat ≤ row.hi)) ∧
  (∀ (s : State) (a : Word), s.params.regMap = Config.regMap →
    (s.accessible a = false ↔
      (0xFF00 ≤ a.toNat ∧ a.toNat ≤ 0xFF03) ∨ (0xFF08 ≤ a.toNat ∧ a.toNat ≤ 0xFF0E) ∨
      (0xFF27 ≤ a.toNat ∧ a.toNat ≤ 0xFF2F) ∨ a.toNat = 0xFF41 ∨ a.toNat = 0xFF45 ∨ a.toNat = 0xFF46 ∨
      (0xFF48 ≤ a.toNat ∧ a.toNat ≤ 0xFF7F)))

/-- R119, R104, R106, R108, R111: a byte of a RAM store reads as the last byte written there; the write changes what no
other address reads as. -/
def Obligations.ReadReturnsTheLastWrite : Prop :=
  ∀ (s : State) (a b : Word) (v : Byte), s.mem.wf = true → isRam a.toNat = true →
    (s.busStore a v).busValue b = if b = a then v else s.busValue b

/-! ## The timer -/

/-- R530 to R533, R535: one tick adds 4 to `sysclk`, and TIMA counts exactly when the selected bit falls with the timer
enabled; an overflow reloads it from TMA and sets IF bit 2 in the same cycle. A write to DIV clears `sysclk`, a write to
TAC stores bits 2 to 0; each counts once exactly when the signal was 1 before and is 0 after. -/
def Obligations.TimerCountsFallingEdges : Prop :=
  ∀ (s : State) (v : Byte),
    let bit (tac : BitVec 3) : Nat :=
      match tac.extractLsb' 0 2 with
      | 0b00#2 => 9
      | 0b01#2 => 3
      | 0b10#2 => 5
      | 0b11#2 => 7
    let signal (u : Timer) : Bool := u.tac.getLsbD 2 && u.sysclk.getLsbD (bit u.tac)
    let counted (u : Timer) : State :=
      if signal s.timer = true ∧ signal u = false then
        if u.tima = 0xFF then
          { s with timer := { u with tima := u.tma }, intFlag := s.intFlag ||| 0b00100 }
        else { s with timer := { u with tima := u.tima + 1 } }
      else { s with timer := u }
    timerTick s = counted { s.timer with sysclk := s.timer.sysclk + 4 } ∧
    (s.params.regMap = Config.regMap →
      decodeWrite 0xFF04 v s = .ok () (counted { s.timer with sysclk := 0 }) ∧
      decodeWrite 0xFF07 v s = .ok () (counted { s.timer with tac := v.setWidth 3 }))

/-- R60 (the periods of its table), R530, R532, R533: with the timer enabled, in any window of one period TIMA counts
exactly once. -/
def Obligations.TimerCountsOncePerPeriod : Prop :=
  ∀ t : Timer, t.tac.getLsbD 2 = true →
    let n := Timer.period (t.tac.extractLsb' 0 2)
    (Timer.run n t).1.tima = (if t.tima = 0xFF then t.tma else t.tima + 1) ∧
    ((Timer.run n t).2 = true ↔ t.tima = 0xFF) ∧
    (Timer.run n t).1.sysclk = t.sysclk + BitVec.ofNat 16 (4 * n)

/-! ## The video unit -/

/-- R561, R560: a write to LCDC that changes bit 7 puts the PPU at the reset position and keeps the bitmap; any other
write changes LCDC only; with bit 7 clear a tick does nothing. That a change from 0 to 1 resets the position too is the
model's choice (log entry 12); in every run the PPU already stands there. -/
def Obligations.LcdEnableTransitions : Prop :=
  ∀ (m : Memory) (p : Ppu) (v : Byte),
    (p.lcdc.getLsbD 7 ≠ v.getLsbD 7 →
      p.writeLcdc v = { p with lcdc := v, ly := 0, dot := 0, mode := .oamScan, spriteBuf := [], bgFifo := [], x := 0,
                               discard := 0, fetch := { phase := .tile, pdot := 0, fetchX := 0, tileNo := 0, lo := 0,
                                                        hi := 0 } }) ∧
    (p.lcdc.getLsbD 7 = v.getLsbD 7 → p.writeLcdc v = { p with lcdc := v }) ∧
    (p.lcdc.getLsbD 7 = false → p.tick m = PpuRun.start p)

/-- R550, R562, R570, R571: after `n` dots the position in the frame is `n` further, modulo 70,224, whatever memory and
registers hold; VBlank is requested exactly when a dot enters line 144. -/
def Obligations.PositionAdvancesOneDotAtATime : Prop :=
  ∀ (m : Memory) (p : Ppu) (n : Nat), PpuInv p →
    let r := PpuRun.dots m n (PpuRun.start p)
    r.fault = none ∧ PpuInv r.ppu ∧ r.ppu.position = (p.position + n) % 70224 ∧
    (r.vblank = true ↔ ∃ k, 1 ≤ k ∧ k ≤ n ∧ (p.position + k) % 70224 = 456 * 144)

/-- R563, R564: the OAM scan of a line keeps the first 10 entries of OAM that meet the line, in OAM order, and leaves the
line ready to draw. -/
def Obligations.OamScanKeepsTheFirstTenSprites : Prop :=
  ∀ (m : Memory) (p : Ppu), PpuInv p → p.mode = .oamScan → p.dot = 0 → p.spriteBuf = [] →
    let q := (PpuRun.dots m 80 (PpuRun.start p)).ppu
    q.spriteBuf = (((List.range 40).map (oamEntry m)).filter p.meetsLine).take 10 ∧
    q.mode = .draw ∧ q.dot = 80 ∧ q.ly = p.ly ∧ q.x = 0 ∧ q.bgFifo = [] ∧ q.fetch = Fetch.start ∧
    q.discard = p.scx.toNat % 8

/-- R565 to R569: drawing a line takes 170 + (SCX mod 8) dots, not one fewer, and then HBLANK begins. -/
def Obligations.DrawLengthIsFixedByScroll : Prop :=
  ∀ (m : Memory) (p : Ppu), PpuInv p → p.mode = .draw → p.dot = 80 → p = p.drawInit →
    (∀ n < 170 + p.scx.toNat % 8, (PpuRun.dots m n (PpuRun.start p)).ppu.mode = .draw) ∧
    (PpuRun.dots m (170 + p.scx.toNat % 8) (PpuRun.start p)).ppu.mode = .hblank

/-- R565 to R568, R66: drawing a line writes in its row of the bitmap, at every column, the shade of the background pixel
at the scrolled position, and writes no other row. -/
def Obligations.DrawnLineShowsTheBackground : Prop :=
  ∀ (m : Memory) (p : Ppu), PpuInv p → p.mode = .draw → p.dot = 80 → p = p.drawInit →
    let q := (PpuRun.dots m (170 + p.scx.toNat % 8) (PpuRun.start p)).ppu
    (∀ (row col : Nat) (hr : row < 144) (hc : col < 160),
      (q.bitmap[row])[col] = if row = p.ly then p.expectedShade m col else (p.bitmap[row])[col])

/-! ## Machine-level rules -/

/-- R95 to R97, R700, R9: a launch has the invariant, whatever its `RESET_STATE`, parameters, ROM image and initial memory,
and starts with the values of its `RESET_STATE`. That the record has the device values of D7 and U15 too is the model's
reading (log entry 17). -/
def Obligations.EveryLaunchMeetsInvariant : Prop :=
  ∀ (rs : ResetState) (params : Params) (rom init : Nat → Byte),
    let s := State.powerOn rs params (Memory.launch rom init)
    s.Inv ∧ s.regs = rs.regs ∧ s.ime = rs.ime ∧ s.eiPending = rs.eiPending ∧ s.halted = rs.halted ∧
    s.haltBug = rs.haltBug ∧ s.timer.sysclk = rs.timer.sysclk ∧ s.params = params ∧
    s.busValue 0xFFFF = rs.ie ∧
    (params.regMap = Config.regMap →
      s.busValue 0xFF0F = 0b111#3 ++ rs.intFlag ∧ s.busValue 0xFF04 = rs.timer.sysclk.extractLsb' 8 8 ∧
      s.busValue 0xFF05 = rs.timer.tima ∧
      s.busValue 0xFF06 = rs.timer.tma ∧ s.busValue 0xFF07 = 0b11111#5 ++ rs.timer.tac ∧
      s.busValue 0xFF40 = rs.lcdc ∧ s.busValue 0xFF42 = rs.scy ∧ s.busValue 0xFF43 = rs.scx ∧
      s.busValue 0xFF47 = rs.bgp)

/-- R572, R71, R114: every step keeps the invariant, and no step from a state that has it raises an invariant violation. A
step that raises another fault answers a next state too, by the model's choice (log entry 3). -/
def Obligations.EveryStepKeepsInvariant : Prop :=
  ∀ s t : State, s.Inv → s.fault = none → step s = .next t →
    t.Inv ∧ ∀ check ly dot x fifoLen, t.fault ≠ some (.invariantViolation check ly dot x fifoLen)

/-- R95 to R97, R700, R103 to R111: the state after power-on, for every launch with the default register record: the CPU,
the peripherals, the ROM window with the image and every RAM store with the initial contents. -/
def Obligations.PowerOnValues : Prop :=
  ∀ (params : Params) (rom init : Nat → Byte), params.regMap = Config.regMap →
    let s := State.powerOn ResetState.default params (Memory.launch rom init)
    s.r8 .a = 0x01 ∧ s.flags.toByte = 0xB0 ∧ s.r16 .bc = 0x0013 ∧ s.r16 .de = 0x00D8 ∧ s.r16 .hl = 0x014D ∧
    s.sp = 0xFFFE ∧ s.pc = 0x0100 ∧ s.ime = false ∧ s.eiPending = false ∧ s.halted = false ∧ s.haltBug = false ∧
    s.fault = none ∧ s.cycles = 0 ∧ s.busValue 0xFFFF = 0x00 ∧ s.busValue 0xFF0F = 0xE1 ∧ s.timer.sysclk = 0xABCC ∧
    s.busValue 0xFF04 = 0xAB ∧ s.busValue 0xFF05 = 0x00 ∧ s.busValue 0xFF06 = 0x00 ∧ s.busValue 0xFF07 = 0xF8 ∧
    s.busValue 0xFF40 = 0x91 ∧ s.busValue 0xFF42 = 0x00 ∧ s.busValue 0xFF43 = 0x00 ∧ s.busValue 0xFF44 = 0x00 ∧
    s.busValue 0xFF47 = 0xFC ∧ s.ppu.ly = 0 ∧ s.ppu.dot = 0 ∧ s.ppu.mode = .oamScan ∧ s.ppu.spriteBuf = [] ∧
    s.ppu.bgFifo = [] ∧ s.ppu.spriteFifo = [] ∧ s.ppu.x = 0 ∧ s.ppu.discard = 0 ∧
    s.ppu.fetch = { phase := .tile, pdot := 0, fetchX := 0, tileNo := 0, lo := 0, hi := 0 } ∧
    (∀ (row col : Nat) (hr : row < 144) (hc : col < 160), (s.ppu.bitmap[row])[col] = 0) ∧
    (∀ a : Word, isRom a.toNat = true → s.busValue a = rom a.toNat) ∧
    (∀ a : Word, isRam a.toNat = true → s.busValue a = init a.toNat)

/-- R713, R103, R9: in a launch with `TEST_MODE` false no step changes a byte of the ROM window, and no step ever changes
the launch parameters. -/
def Obligations.StepsKeepRomAndParameters : Prop :=
  ∀ s t : State, step s = .next t →
    t.params = s.params ∧
    (s.mem.wf = true → s.params.testMode = false → ∀ a ≤ 0x7FFF, t.mem.read a = s.mem.read a)

/-- R192, R722: every step costs at least 1 and at most 6 M-cycles. A step that raises a fault answers a next state too, by
the model's choice (log entry 3). -/
def Obligations.StepCostsOneToSixCycles : Prop :=
  ∀ s t : State, step s = .next t → s.cycles + 1 ≤ t.cycles ∧ t.cycles ≤ s.cycles + 6

/-- R610, R611: a completed frame has at least 17,556 M-cycles and fewer than 6 beyond; a frame completes or faults. The
fuel of the frame's loop is the model's (log entry 14). -/
def Obligations.FrameMeetsItsBudget : Prop :=
  ∀ s : State,
    (∀ total t, runFrame s = .done total t → 17556 ≤ total ∧ total - 17556 < 6 ∧ t.cycles = s.cycles + total) ∧
    (∀ e, runFrame s ≠ .refused e)

/-- R195, R196, R198: `HostSetRegs` sets what it is given, masked to its width, F to its high nibble, and nothing else;
`HostPoke` sets the byte of any store, IE or IF and refuses every other address; `HostPeek` returns what a read cycle
without its tick would, and refuses an address where one would fault. The form of a refusal and of a record is the model's
(log entry 13). -/
def Obligations.HarnessSetsAndReadsState : Prop :=
  (∀ (s : State) (rec : HostRegs),
    let t := hostSetRegs rec s
    hostGetRegs t =
      { a := rec.a.elim s.regs.a (BitVec.ofNat 8), f := rec.f.elim s.flags.toByte fun n => BitVec.ofNat 8 n &&& 0xF0,
        b := rec.b.elim s.regs.b (BitVec.ofNat 8), c := rec.c.elim s.regs.c (BitVec.ofNat 8),
        d := rec.d.elim s.regs.d (BitVec.ofNat 8), e := rec.e.elim s.regs.e (BitVec.ofNat 8),
        h := rec.h.elim s.regs.h (BitVec.ofNat 8), l := rec.l.elim s.regs.l (BitVec.ofNat 8),
        sp := rec.sp.elim s.sp (BitVec.ofNat 16), pc := rec.pc.elim s.pc (BitVec.ofNat 16),
        ime := rec.ime.getD s.ime, eiPending := rec.eiPending.getD s.eiPending, halted := rec.halted.getD s.halted,
        haltBug := rec.haltBug.getD s.haltBug, fault := s.fault, cycles := s.cycles } ∧
    { t with regs := s.regs, ime := s.ime, eiPending := s.eiPending, halted := s.halted, haltBug := s.haltBug } = s) ∧
  (∀ (s : State) (a : Word) (v : Byte),
    (isStore a.toNat = true → hostPoke a v s = some { s with mem := s.mem.write a.toNat v }) ∧
    (a = 0xFFFF → hostPoke a v s = some { s with ie := v }) ∧
    (a = 0xFF0F → hostPoke a v s = some { s with intFlag := v.setWidth 5 }) ∧
    (isStore a.toNat = false → a ≠ 0xFFFF → a ≠ 0xFF0F → hostPoke a v s = none)) ∧
  (∀ (s : State) (a : Word),
    (s.accessible a = true → hostPeek a s = some (s.busValue a)) ∧ (s.accessible a = false → hostPeek a s = none))

/-! ## Frames: what an instruction leaves unchanged -/

/-- R45, R46, R47 and the rules of 41 to 48: whatever an instruction answers, faulting or not, it leaves every register,
every flag, SP and PC alone that its rule does not name. -/
def Obligations.RegisterFileFrame : Prop :=
  ∀ (i : Instr) (s t : State), i.WellFormed → exec i s = .next t →
    (∀ r, r ∉ i.form.writes → t.r8 r = s.r8 r) ∧
    (i.form.writesSp = false → t.sp = s.sp) ∧
    (i.form.writesPc = false → t.pc = s.pc) ∧
    (i.form.writesFlags.z = false → t.flags.z = s.flags.z) ∧
    (i.form.writesFlags.n = false → t.flags.n = s.flags.n) ∧
    (i.form.writesFlags.h = false → t.flags.h = s.flags.h) ∧
    (i.form.writesFlags.c = false → t.flags.c = s.flags.c)

/-- R119, R103 to R112: whatever an instruction answers, every byte of memory outside the addresses it stores to reads as
before, IE with them; the addresses are `Form.stores`, computed from the state before. -/
def Obligations.MemoryFrame : Prop :=
  ∀ (i : Instr) (s t : State), i.WellFormed → s.mem.wf = true → exec i s = .next t →
    (∀ a : Word, a ∉ i.form.stores s → t.mem.read a.toNat = s.mem.read a.toNat) ∧
    (0xFFFF#16 ∉ i.form.stores s → t.ie = s.ie)

/-- R48 to R53, R9, R118, R505, R506, R530, R536, R600: whatever an instruction answers, IME changes only by DI and RETI,
`eiPending` only by DI and EI, `halted` and `haltBug` only by HALT, the step's own latch (log entry 4) and the parameters
never. An instruction that stores to no register-bank address leaves TMA, TAC and the video registers alone; its ticks
alone advance the timer and the audio device, and the device is shown no write (log entry 2); it clears no IF bit, and
sets at most bit 0 (VBlank) and bit 2 (Timer). -/
def Obligations.ControlAndDeviceFrame : Prop :=
  ∀ (i : Instr) (s t : State), i.WellFormed → exec i s = .next t →
    (i.form ≠ .di → i.form ≠ .reti → t.ime = s.ime) ∧
    (i.form ≠ .di → i.form ≠ .ei → t.eiPending = s.eiPending) ∧
    (i.form ≠ .halt → t.halted = s.halted ∧ t.haltBug = s.haltBug) ∧
    t.opPC = s.opPC ∧ t.params = s.params ∧
    ((∀ a ∈ i.form.stores s, regionOf a ≠ .regBank) →
      t.timer.tma = s.timer.tma ∧ t.timer.tac = s.timer.tac ∧
      t.timer.sysclk = s.timer.sysclk + 4 * BitVec.ofNat 16 (t.cycles - s.cycles) ∧
      t.timer = (Timer.run (t.cycles - s.cycles) s.timer).1 ∧
      (∀ k < 5, s.intFlag.getLsbD k = true → t.intFlag.getLsbD k = true) ∧
      (∀ k < 5, k ≠ 0 → k ≠ 2 → t.intFlag.getLsbD k = s.intFlag.getLsbD k) ∧
      t.ppu.lcdc = s.ppu.lcdc ∧ t.ppu.scy = s.ppu.scy ∧ t.ppu.scx = s.ppu.scx ∧ t.ppu.bgp = s.ppu.bgp ∧
      t.audio.ticks = s.audio.ticks + (t.cycles - s.cycles) ∧
      (∀ e ∈ t.audio.accesses, e ∈ s.audio.accesses ∨ e.written = none))

/-! ## Every instruction completes -/

/-- R720, R721, R722, R503: every instruction but STOP and the unassigned opcodes, in every state that meets the
invariant and whose accessed addresses may be accessed, ends in a next state with no fault, after exactly the cycles of
the spec's tables (its fetches are the rest of them). -/
def Obligations.EveryInstructionCompletesInItsCycles : Prop :=
  ∀ (i : Instr) (s : State), i.WellFormed → i.form.isFault = false → s.Inv → s.fault = none → AccessesAllowed i s →
    ∃ t, exec i s = .next t ∧ t.fault = none ∧ t.Inv ∧
      t.cycles + (encode i).length = s.cycles + i.cost (i.form.taken s.flags)

/-- R193, R503, R110: where the first address that an instruction accesses may not be accessed, the instruction ends in
the decode fault of that access, with no register but SP, no flag and no byte of memory changed. That the fault is a next
state that records it (log entry 3), and the latched PC `opPC` that it names (log entry 4), are the model's. -/
def Obligations.ForbiddenAccessFaults : Prop :=
  ∀ (i : Instr) (s : State) (a : Word) (rest : List Word), i.WellFormed → s.Inv → s.fault = none →
    i.form.reads s ++ i.form.stores s = a :: rest → s.accessible a = false →
    ∃ t, exec i s = .next t ∧
      t.fault = some (.decodeFault a (if i.form.reads s = [] then .write else .read) s.opPC) ∧
      (∀ r, t.r8 r = s.r8 r) ∧ t.flags = s.flags ∧ t.pc = s.pc ∧ t.mem = s.mem ∧ t.ie = s.ie ∧ t.ime = s.ime

/-- R503, R260, R262, R264, R265, R416 to R421: where the second of two byte accesses may not be accessed, the first one's
effect stays: the high byte pushed and SP moved by 2 (log entry 16), SP moved by 1 by the first pop, the low byte of
LD (nn),SP stored. Nothing after the fault happens. A CALL cc or RET cc that is taken does as CALL and RET, RET cc after
the cycle of its test. That the fault is a next state, and the PC it names, are the model's (log entries 3 and 4). -/
def Obligations.SecondAccessFaultKeepsTheFirst : Prop :=
  ∀ (i : Instr) (s : State), s.Inv →
    let pushing (v : Word) : Prop := s.accessible (s.sp - 1) = true → s.accessible (s.sp - 2) = false →
      exec i s = .next { (((s.ticked.setSP (s.sp - 1)).afterWrite (s.sp - 1) (hiByte v)).setSP (s.sp - 2)).ticked with
        fault := some (.decodeFault (s.sp - 2) .write s.opPC) }
    let popping (u : State) : Prop := s.accessible s.sp = true → s.accessible (s.sp + 1) = false →
      exec i s = .next { ((u.afterRead s.sp).setSP (s.sp + 1)).ticked with
        fault := some (.decodeFault (s.sp + 1) .read s.opPC) }
    (∀ rr, i.form = .push rr → pushing (s.stk rr)) ∧ (∀ nn, i.form = .call nn → pushing s.pc) ∧
    (∀ cc nn, i.form = .callCond cc nn → s.flags.holds cc = true → pushing s.pc) ∧
    (∀ y, i.form = .rst y → pushing s.pc) ∧
    (∀ rr, i.form = .pop rr → popping s) ∧ (i.form = .ret → popping s) ∧ (i.form = .reti → popping s) ∧
    (∀ cc, i.form = .retCond cc → s.flags.holds cc = true → popping s.ticked) ∧
    (∀ nn, i.form = .ldAtNnSp nn → s.accessible nn = true → s.accessible (nn + 1) = false →
      exec i s = .next { (s.afterWrite nn (loByte s.sp)).ticked with
        fault := some (.decodeFault (nn + 1) .write s.opPC) })

/-- R453, R456, R500, R502, R189: STOP and each unassigned opcode raise their fault, which names the opcode and `opPC`, and
change nothing else. That the fault is a next state that records it (log entry 3), and the latched PC `opPC` that it names
(log entry 4), are the model's. -/
def Obligations.FaultingOpcodesRecordTheirFault : Prop :=
  ∀ (i : Instr) (s : State),
    (i.form = .stop → exec i s = .next { s with fault := some (.unmodelledInstruction 0x10 s.opPC) }) ∧
    (∀ op, i.form = .illegal op → exec i s = .next { s with fault := some (.undefinedOpcode op s.opPC) })

/-! ## Results: 8-bit loads -/

/-- R220 to R222, R225, R226, R233, R235, R237: the 8-bit loads into a register: from a register, from an immediate, and
with one read cycle at the address the rule gives. No flag is written. -/
def Obligations.LoadsIntoRegisters : Prop :=
  ∀ (i : Instr) (s : State), s.Inv →
    (∀ dst src, i.form = .ldRegReg dst src → exec i s = .next (s.setR8 dst (s.r8 src))) ∧
    (∀ dst n, i.form = .ldRegImm dst n → exec i s = .next (s.setR8 dst n)) ∧
    (∀ dst, i.form = .ldRegAtHl dst → LoadsFrom i s dst (s.r16 .hl)) ∧
    (i.form = .ldAAtBc → LoadsFrom i s .a (s.r16 .bc)) ∧
    (i.form = .ldAAtDe → LoadsFrom i s .a (s.r16 .de)) ∧
    (∀ nn, i.form = .ldAAtNn nn → LoadsFrom i s .a nn) ∧
    (∀ n, i.form = .ldhAAtN n → LoadsFrom i s .a (0xFF00 + n.setWidth 16)) ∧
    (i.form = .ldAAtC → LoadsFrom i s .a (0xFF00 + (s.r8 .c).setWidth 16))

/-- R223, R224, R227, R228, R234, R236, R238: the stores: one write cycle at the address the rule gives. -/
def Obligations.StoresToMemory : Prop :=
  ∀ (i : Instr) (s : State), s.Inv →
    (∀ src, i.form = .ldAtHlReg src → StoresTo i s (s.r16 .hl) (s.r8 src)) ∧
    (∀ n, i.form = .ldAtHlImm n → StoresTo i s (s.r16 .hl) n) ∧
    (i.form = .ldAtBcA → StoresTo i s (s.r16 .bc) (s.r8 .a)) ∧
    (i.form = .ldAtDeA → StoresTo i s (s.r16 .de) (s.r8 .a)) ∧
    (∀ nn, i.form = .ldAtNnA nn → StoresTo i s nn (s.r8 .a)) ∧
    (∀ n, i.form = .ldhAtNA n → StoresTo i s (0xFF00 + n.setWidth 16) (s.r8 .a)) ∧
    (i.form = .ldAtCA → StoresTo i s (0xFF00 + (s.r8 .c).setWidth 16) (s.r8 .a))

/-- R229 to R232: the accumulator loads and stores that move HL after the access. -/
def Obligations.AccumulatorLoadsMoveHl : Prop :=
  ∀ (i : Instr) (s : State), s.Inv → s.accessible (s.r16 .hl) = true →
    (i.form = .ldAAtHlInc → exec i s =
      .next (((s.afterRead (s.r16 .hl)).setR8 .a (s.readValue (s.r16 .hl))).setR16 .hl (s.r16 .hl + 1))) ∧
    (i.form = .ldAAtHlDec → exec i s =
      .next (((s.afterRead (s.r16 .hl)).setR8 .a (s.readValue (s.r16 .hl))).setR16 .hl (s.r16 .hl - 1))) ∧
    (i.form = .ldAtHlIncA → exec i s =
      .next ((s.afterWrite (s.r16 .hl) (s.r8 .a)).setR16 .hl (s.r16 .hl + 1))) ∧
    (i.form = .ldAtHlDecA → exec i s =
      .next ((s.afterWrite (s.r16 .hl) (s.r8 .a)).setR16 .hl (s.r16 .hl - 1)))

/-! ## Results: 16-bit loads and the stack -/

/-- R260 to R266: the 16-bit loads, PUSH and POP. LD (nn),SP stores the low byte at `nn` and the high byte at `nn + 1`;
PUSH has an internal cycle first; the pair of PUSH and POP may be BC, DE, HL or AF. -/
def Obligations.SixteenBitLoadsAndStack : Prop :=
  ∀ (i : Instr) (s : State), s.Inv →
    (∀ rr nn, i.form = .ldPairImm rr nn → exec i s = .next (s.setR16 rr nn)) ∧
    (i.form = .ldSpHl → exec i s = .next (s.ticked.setSP (s.r16 .hl))) ∧
    (∀ nn, i.form = .ldAtNnSp nn → s.accessible nn = true → s.accessible (nn + 1) = true →
      exec i s = .next ((s.afterWrite nn (loByte s.sp)).afterWrite (nn + 1) (hiByte s.sp))) ∧
    (∀ rr, i.form = .push rr → (∀ a ∈ s.pushAddrs, s.accessible a = true) →
      exec i s = .next (s.ticked.afterPush (s.stk rr))) ∧
    (∀ rr, i.form = .pop rr → (∀ a ∈ s.popAddrs, s.accessible a = true) →
      exec i s = .next (s.afterPop.setStk rr s.popValue))

/-! ## Results: 8-bit arithmetic and logic -/

/-- R290: each accumulator operation on a register, on an immediate and on the byte at HL: A and the flags become what
the operation gives, nothing else changes but the read cycle of (HL). -/
def Obligations.AccumulatorOperandForms : Prop :=
  ∀ (i : Instr) (s : State) (op : AluOp), s.Inv →
    (∀ src, i.form = .aluReg op src →
      exec i s = .next (s.setAF (aluResult op (s.r8 .a) (s.r8 src) s.flags.c))) ∧
    (∀ n, i.form = .aluImm op n → exec i s = .next (s.setAF (aluResult op (s.r8 .a) n s.flags.c))) ∧
    (i.form = .aluAtHl op → s.accessible (s.r16 .hl) = true →
      exec i s = .next ((s.afterRead (s.r16 .hl)).setAF
        (aluResult op (s.r8 .a) (s.readValue (s.r16 .hl)) s.flags.c)))

/-- R291 to R299: the result and the four flags of each accumulator operation, in exact arithmetic on the operands'
values; `c` is the incoming carry. -/
def Obligations.AccumulatorResultsAndFlags : Prop :=
  ∀ (a v : Byte) (c : Bool),
    let k := if c then 1 else 0
    let sum (k : Nat) : Byte × Flags :=
      (BitVec.ofNat 8 (a.toNat + v.toNat + k),
        { z := decide ((a.toNat + v.toNat + k) % 256 = 0), n := false,
          h := decide (a.toNat % 16 + v.toNat % 16 + k > 0xF), c := decide (a.toNat + v.toNat + k > 0xFF) })
    let difference (k : Nat) : Byte × Flags :=
      (BitVec.ofInt 8 ((a.toNat : Int) - v.toNat - k),
        { z := decide (((a.toNat : Int) - v.toNat - k) % 256 = 0), n := true,
          h := decide (a.toNat % 16 < v.toNat % 16 + k), c := decide (a.toNat < v.toNat + k) })
    let logic (r : Byte) (h : Bool) : Byte × Flags :=
      (r, { z := decide (r = 0), n := false, h := h, c := false })
    aluResult .add a v c = sum 0 ∧ aluResult .adc a v c = sum k ∧
    aluResult .sub a v c = difference 0 ∧ aluResult .sbc a v c = difference k ∧
    aluResult .and a v c = logic (a &&& v) true ∧ aluResult .xor a v c = logic (a ^^^ v) false ∧
    aluResult .or a v c = logic (a ||| v) false ∧ aluResult .cp a v c = (a, (difference 0).2)

/-- R300 to R303: INC and DEC of a register and of the byte at HL; C is kept. -/
def Obligations.IncrementAndDecrementResults : Prop :=
  ∀ (i : Instr) (s : State), s.Inv →
    let up (old : Byte) : Flags :=
      { s.flags with z := decide (old = 0xFF), n := false, h := decide (old &&& 0xF = 0xF) }
    let down (old : Byte) : Flags :=
      { s.flags with z := decide (old = 0x01), n := true, h := decide (old &&& 0xF = 0) }
    (∀ r, i.form = .incReg r → exec i s = .next ((s.setR8 r (s.r8 r + 1)).setFlags (up (s.r8 r)))) ∧
    (∀ r, i.form = .decReg r → exec i s = .next ((s.setR8 r (s.r8 r - 1)).setFlags (down (s.r8 r)))) ∧
    (s.accessible (s.r16 .hl) = true →
      let hl := s.r16 .hl
      let old := s.readValue hl
      (i.form = .incAtHl →
        exec i s = .next (((s.afterRead hl).afterWrite hl (old + 1)).setFlags (up old))) ∧
      (i.form = .decAtHl →
        exec i s = .next (((s.afterRead hl).afterWrite hl (old - 1)).setFlags (down old))))

/-- R304, R305, R306, R307: DAA, CPL, SCF and CCF. -/
def Obligations.AccumulatorAdjustAndCarryResults : Prop :=
  ∀ (i : Instr) (s : State),
    let a := (s.r8 .a).toNat
    let f := s.flags
    let addHigh := f.c = true ∨ a > 0x99
    let addLow := f.h = true ∨ a % 16 > 0x09
    let up := a + (if addHigh then 0x60 else 0) + (if addLow then 0x06 else 0)
    let down := (a : Int) - (if f.c then 0x60 else 0) - (if f.h then 0x06 else 0)
    let r : Byte := if f.n then BitVec.ofInt 8 down else BitVec.ofNat 8 up
    (i.form = .daa → exec i s = .next ((s.setR8 .a r).setFlags
      { f with z := decide (r = 0), h := false, c := if f.n then f.c else decide addHigh })) ∧
    (i.form = .cpl → exec i s = .next ((s.setR8 .a (~~~ s.r8 .a)).setFlags { f with n := true, h := true })) ∧
    (i.form = .scf → exec i s = .next (s.setFlags { f with n := false, h := false, c := true })) ∧
    (i.form = .ccf → exec i s = .next (s.setFlags { f with n := false, h := false, c := !f.c }))

/-- R304, R293, R295: DAA after an addition or a subtraction of two packed decimal bytes, with an incoming carry or
without, gives the packed decimal sum or difference modulo 100, and C is the decimal carry or borrow. -/
def Obligations.DecimalAdjustIsDecimalArithmetic : Prop :=
  ∀ (x y : Nat) (c : Bool), x < 100 → y < 100 →
    let bcd (n : Nat) : Byte := BitVec.ofNat 8 (16 * (n / 10) + n % 10)
    let k := if c then 1 else 0
    let sum := add8 (bcd x) (bcd y) c
    let diff := sub8 (bcd x) (bcd y) c
    (daaResult sum.1 sum.2).1 = bcd ((x + y + k) % 100) ∧
    (daaResult sum.1 sum.2).2.c = decide (100 ≤ x + y + k) ∧
    (daaResult diff.1 diff.2).1 = bcd ((x + 200 - y - k) % 100) ∧
    (daaResult diff.1 diff.2).2.c = decide (x < y + k)

/-! ## Results: 16-bit arithmetic -/

/-- R340 to R343, R267: ADD HL,rr keeps Z and has the carries out of bits 11 and 15; INC rr and DEC rr write no flag;
ADD SP,e and LD HL,SP+e give the signed sum, with Z and N cleared and the carries of the unsigned sum of the low bytes.
ADD SP,e has two internal cycles, the others one. -/
def Obligations.SixteenBitArithmeticResults : Prop :=
  ∀ (i : Instr) (s : State), s.Inv →
    let h := (s.r16 .hl).toNat
    (∀ rr, i.form = .addHl rr →
      let v := (s.r16 rr).toNat
      exec i s = .next ((s.ticked.setR16 .hl (BitVec.ofNat 16 (h + v))).setFlags
        { s.flags with n := false, h := decide (h % 4096 + v % 4096 > 0x0FFF), c := decide (h + v > 0xFFFF) })) ∧
    (∀ rr, i.form = .incPair rr → exec i s = .next (s.ticked.setR16 rr (s.r16 rr + 1))) ∧
    (∀ rr, i.form = .decPair rr → exec i s = .next (s.ticked.setR16 rr (s.r16 rr - 1))) ∧
    (∀ e : Byte,
      let r : Word := BitVec.ofInt 16 ((s.sp.toNat : Int) + e.toInt)
      let f : Flags := { z := false, n := false, h := decide (s.sp.toNat % 16 + e.toNat % 16 > 0x0F),
                         c := decide (s.sp.toNat % 256 + e.toNat > 0xFF) }
      (i.form = .addSpE e → exec i s = .next ((s.ticked.ticked.setSP r).setFlags f)) ∧
      (i.form = .ldHlSpE e → exec i s = .next ((s.ticked.setR16 .hl r).setFlags f)))

/-! ## Results: rotates, shifts and bits -/

/-- R365 to R372: the result and the outgoing carry of each operation, in exact arithmetic on the operand's value; `c` is
the incoming carry. -/
def Obligations.RotateResultsAndCarry : Prop :=
  ∀ (v : Byte) (c : Bool),
    let n := v.toNat
    let k := if c then 1 else 0
    let hi := decide (128 ≤ n)
    let lo := decide (n % 2 = 1)
    rotate .rlc v c = (BitVec.ofNat 8 (2 * n + n / 128), hi) ∧
    rotate .rrc v c = (BitVec.ofNat 8 (n / 2 + 128 * (n % 2)), lo) ∧
    rotate .rl v c = (BitVec.ofNat 8 (2 * n + k), hi) ∧
    rotate .rr v c = (BitVec.ofNat 8 (n / 2 + 128 * k), lo) ∧
    rotate .sla v c = (BitVec.ofNat 8 (2 * n), hi) ∧
    rotate .sra v c = (BitVec.ofNat 8 (n / 2 + 128 * (n / 128)), lo) ∧
    rotate .swap v c = (BitVec.ofNat 8 (16 * (n % 16) + n / 16), false) ∧
    rotate .srl v c = (BitVec.ofNat 8 (n / 2), lo)

/-- R360 to R364: the accumulator rotates clear Z; the secondary operations set it from the result. N and H are cleared,
C is the outgoing carry. The (HL) form reads and writes the byte at HL. -/
def Obligations.RotateForms : Prop :=
  ∀ (i : Instr) (s : State), s.Inv →
    let acc (op : RotOp) : Result :=
      let r := rotate op (s.r8 .a) s.flags.c
      .next ((s.setR8 .a r.1).setFlags { z := false, n := false, h := false, c := r.2 })
    let fl (r : Byte × Bool) : Flags := { z := decide (r.1 = 0), n := false, h := false, c := r.2 }
    (i.form = .rlca → exec i s = acc .rlc) ∧ (i.form = .rrca → exec i s = acc .rrc) ∧
    (i.form = .rla → exec i s = acc .rl) ∧ (i.form = .rra → exec i s = acc .rr) ∧
    (∀ op r, i.form = .rotReg op r →
      exec i s = .next ((s.setR8 r (rotate op (s.r8 r) s.flags.c).1).setFlags
        (fl (rotate op (s.r8 r) s.flags.c)))) ∧
    (∀ op, i.form = .rotAtHl op → s.accessible (s.r16 .hl) = true →
      let r := rotate op (s.readValue (s.r16 .hl)) s.flags.c
      exec i s = .next (((s.afterRead (s.r16 .hl)).afterWrite (s.r16 .hl) r.1).setFlags (fl r)))

/-- R390, R391, R392: BIT, RES and SET on a register and on the byte at HL. BIT: Z is the complement of the bit, N=0, H=1,
C kept, no write cycle. RES and SET change exactly the bit they name, and no flag. -/
def Obligations.BitOperationResults : Prop :=
  ∀ (i : Instr) (s : State) (b : Fin 8), s.Inv →
    let fl (v : Byte) : Flags := { s.flags with z := decide (v.toNat / 2 ^ b.val % 2 = 0), n := false, h := true }
    let res (v w : Byte) : Prop := ∀ k < 8, w.getLsbD k = (v.getLsbD k && decide (k ≠ b.val))
    let set (v w : Byte) : Prop := ∀ k < 8, w.getLsbD k = (v.getLsbD k || decide (k = b.val))
    let hl := s.r16 .hl
    (∀ r, i.form = .bitReg b r → exec i s = .next (s.setFlags (fl (s.r8 r)))) ∧
    (∀ r, i.form = .resReg b r → ∃ w, res (s.r8 r) w ∧ exec i s = .next (s.setR8 r w)) ∧
    (∀ r, i.form = .setReg b r → ∃ w, set (s.r8 r) w ∧ exec i s = .next (s.setR8 r w)) ∧
    (s.accessible hl = true →
      (i.form = .bitAtHl b → exec i s = .next ((s.afterRead hl).setFlags (fl (s.readValue hl)))) ∧
      (i.form = .resAtHl b → ∃ w, res (s.readValue hl) w ∧ exec i s = .next ((s.afterRead hl).afterWrite hl w)) ∧
      (i.form = .setAtHl b → ∃ w, set (s.readValue hl) w ∧ exec i s = .next ((s.afterRead hl).afterWrite hl w)))

/-! ## Results: control transfer and system -/

/-- R410 to R415, R422: the jumps: an internal cycle and the target when taken, nothing when not; JP HL without the
cycle; a relative target is PC plus the signed displacement, modulo 65536. -/
def Obligations.JumpResults : Prop :=
  ∀ (i : Instr) (s : State), s.Inv →
    let rel (e : Byte) : Word := BitVec.ofInt 16 ((s.pc.toNat : Int) + e.toInt)
    (∀ nn, i.form = .jp nn → exec i s = .next (s.ticked.setPC nn)) ∧
    (∀ cc nn, i.form = .jpCond cc nn →
      exec i s = .next (if s.flags.holds cc then s.ticked.setPC nn else s)) ∧
    (i.form = .jpHl → exec i s = .next (s.setPC (s.r16 .hl))) ∧
    (∀ e, i.form = .jr e → exec i s = .next (s.ticked.setPC (rel e))) ∧
    (∀ cc e, i.form = .jrCond cc e →
      exec i s = .next (if s.flags.holds cc then s.ticked.setPC (rel e) else s))

/-- R416, R417, R421, R147: the calls push the address after the instruction and go to their target; a CALL cc that is
not taken does nothing more. -/
def Obligations.CallResults : Prop :=
  ∀ (i : Instr) (s : State), s.Inv →
    (∀ nn, i.form = .call nn → Calls i s nn) ∧
    (∀ cc nn, i.form = .callCond cc nn → s.flags.holds cc = true → Calls i s nn) ∧
    (∀ cc nn, i.form = .callCond cc nn → s.flags.holds cc = false → exec i s = .next s) ∧
    (∀ y, i.form = .rst y → Calls i s (BitVec.ofNat 16 (8 * y.val)))

/-- R418, R419, R420: the returns pop PC; RET cc has one internal cycle for its test; RETI sets IME at once and leaves
`eiPending` alone. -/
def Obligations.ReturnResults : Prop :=
  ∀ (i : Instr) (s : State), s.Inv →
    (i.form = .ret → (∀ a ∈ s.popAddrs, s.accessible a = true) →
      exec i s = .next (s.afterPop.ticked.setPC s.popValue)) ∧
    (i.form = .reti → (∀ a ∈ s.popAddrs, s.accessible a = true) →
      exec i s = .next { s.afterPop.ticked.setPC s.popValue with ime := true }) ∧
    (∀ cc, i.form = .retCond cc → s.flags.holds cc = true → (∀ a ∈ s.popAddrs, s.accessible a = true) →
      exec i s = .next (s.ticked.afterPop.ticked.setPC s.ticked.popValue)) ∧
    (∀ cc, i.form = .retCond cc → s.flags.holds cc = false → exec i s = .next s.ticked)

/-- R260, R265, R266, R416, R418: PUSH then POP of the same pair restores the pair and SP, for BC, DE, HL and AF, and a
RET after a CALL comes back to the address after the CALL with SP as it was, where the two stack bytes are in RAM. -/
def Obligations.StackRoundTrips : Prop :=
  ∀ (i j : Instr) (s t u : State), s.Inv → (∀ a ∈ s.pushAddrs, isRam a.toNat = true) →
    exec i s = .next t → exec j t = .next u →
    (∀ rr, i.form = .push rr → j.form = .pop rr → u.stk rr = s.stk rr ∧ u.sp = s.sp) ∧
    (∀ nn, i.form = .call nn → j.form = .ret → u.pc = s.pc ∧ u.sp = s.sp)

/-- R450, R451, R452, R454, R455: NOP, HALT with and without the halt bug, DI and EI. -/
def Obligations.SystemInstructionResults : Prop :=
  ∀ (i : Instr) (s : State),
    (i.form = .nop → exec i s = .next s) ∧
    (i.form = .halt → exec i s =
      .next (if s.ime = false ∧ s.pending = true ∧ s.params.haltBug = true then { s with haltBug := true }
        else { s with halted := true })) ∧
    (i.form = .di → exec i s = .next { s with ime := false, eiPending := false }) ∧
    (i.form = .ei → exec i s = .next { s with eiPending := true })
end

