-- ==== Sys2Proof/Laws/Bytes.lean ====
section
/-! SUPPORT. Taking a word apart into bytes and putting it together (R10, R41), and F as a byte (R43, R44). -/

namespace Sys2Proof

theorem ofBytes_toNat (h l : Byte) : (ofBytes h l).toNat = h.toNat * 256 + l.toNat := by
  have hl := l.isLt
  show (BitVec.append h l).toNat = _
  have := BitVec.toNat_append h l
  rw [← Nat.shiftLeft_add_eq_or_of_lt hl] at this
  simpa [Nat.shiftLeft_eq] using this

theorem hiByte_toNat (w : Word) : (hiByte w).toNat = w.toNat / 256 := by
  have := w.isLt
  simp [hiByte, BitVec.extractLsb'_toNat, Nat.shiftRight_eq_div_pow]
  omega

theorem loByte_toNat (w : Word) : (loByte w).toNat = w.toNat % 256 := by
  simp [loByte, BitVec.extractLsb'_toNat]

@[simp] theorem hiByte_ofBytes (h l : Byte) : hiByte (ofBytes h l) = h := by
  apply BitVec.eq_of_toNat_eq
  have := l.isLt
  rw [hiByte_toNat, ofBytes_toNat]
  omega

@[simp] theorem loByte_ofBytes (h l : Byte) : loByte (ofBytes h l) = l := by
  apply BitVec.eq_of_toNat_eq
  have := l.isLt
  rw [loByte_toNat, ofBytes_toNat]
  omega

@[simp] theorem ofBytes_halves (w : Word) : ofBytes (hiByte w) (loByte w) = w := by
  apply BitVec.eq_of_toNat_eq
  rw [ofBytes_toNat, hiByte_toNat, loByte_toNat]
  omega

namespace Machine

/-- Reading back the flags of a flag byte gives them (R43). -/
@[simp] theorem Flags.ofByte_toByte (f : Flags) : Flags.ofByte f.toByte = f := by
  rcases f with ⟨_ | _, _ | _, _ | _, _ | _⟩ <;> rfl

end Machine

end Sys2Proof
end

