-- ==== Sys2Proof/Laws/Memory.lean ====
section
/-! SUPPORT. The memory list: what a read gives after a write, and that the canonical form and the store addresses are
kept by every operation. -/

namespace Sys2Proof.Machine

/-! ## The canonical form -/

theorem Memory.wfFrom_mono {lo lo' : Nat} {m : Memory} (h : lo ≤ lo') (hm : Memory.wfFrom lo' m = true) :
    Memory.wfFrom lo m = true := by
  cases m with
  | nil => rfl
  | cons c rest =>
    simp only [Memory.wfFrom, Bool.and_eq_true, decide_eq_true_eq] at hm ⊢
    exact ⟨⟨by omega, hm.1.2⟩, hm.2⟩

/-- Below the lower bound of a canonical list nothing is listed. -/
theorem Memory.read_below {lo a : Nat} {m : Memory} (hm : Memory.wfFrom lo m = true) (h : a < lo) :
    m.read a = Config.unlisted := by
  induction m generalizing lo with
  | nil => rfl
  | cons c rest ih =>
    simp only [Memory.wfFrom, Bool.and_eq_true, decide_eq_true_eq] at hm
    simp only [Memory.read]
    rw [if_neg (by omega)]
    exact ih hm.2 (by omega)

theorem Memory.wfFrom_put {lo a : Nat} {v : Byte} {m : Memory} (h : lo ≤ a) (hm : Memory.wfFrom (a + 1) m = true) :
    Memory.wfFrom lo (Memory.put a v m) = true := by
  unfold Memory.put
  split
  · exact Memory.wfFrom_mono (by omega) hm
  · simp only [Memory.wfFrom, Bool.and_eq_true, decide_eq_true_eq]
    exact ⟨⟨h, by assumption⟩, hm⟩

theorem Memory.wfFrom_write {lo a : Nat} {m : Memory} (v : Byte) (h : lo ≤ a) (hm : Memory.wfFrom lo m = true) :
    Memory.wfFrom lo (m.write a v) = true := by
  induction m generalizing lo with
  | nil => exact Memory.wfFrom_put h rfl
  | cons c rest ih =>
    obtain ⟨k, w⟩ := c
    have hm' := hm
    simp only [Memory.wfFrom, Bool.and_eq_true, decide_eq_true_eq] at hm
    simp only [Memory.write]
    split
    · apply Memory.wfFrom_put h
      simp only [Memory.wfFrom, Bool.and_eq_true, decide_eq_true_eq]
      exact ⟨⟨by omega, hm.1.2⟩, hm.2⟩
    · split
      · next heq => subst heq; exact Memory.wfFrom_put h hm.2
      · simp only [Memory.wfFrom, Bool.and_eq_true, decide_eq_true_eq]
        exact ⟨hm.1, ih (by omega) hm.2⟩

/-- A write keeps the canonical form. -/
theorem Memory.wf_write {m : Memory} (a : Nat) (v : Byte) (hm : m.wf = true) : (m.write a v).wf = true :=
  Memory.wfFrom_write v (Nat.zero_le a) hm

/-! ## Reading after a write -/

theorem Memory.read_put {lo a b : Nat} {v : Byte} {m : Memory} (hm : Memory.wfFrom lo m = true) (h : a < lo) :
    (Memory.put a v m).read b = if b = a then v else m.read b := by
  unfold Memory.put
  split
  · next hv =>
    split
    · next hb => rw [hb, hv]; exact Memory.read_below hm h
    · rfl
  · rfl

theorem Memory.read_write_from {lo a b : Nat} {m : Memory} (v : Byte) (hm : Memory.wfFrom lo m = true) :
    (m.write a v).read b = if b = a then v else m.read b := by
  induction m generalizing lo with
  | nil => exact Memory.read_put (lo := a + 1) rfl (by omega)
  | cons c rest ih =>
    obtain ⟨k, w⟩ := c
    have hm' := hm
    simp only [Memory.wfFrom, Bool.and_eq_true, decide_eq_true_eq] at hm
    simp only [Memory.write]
    split
    · have hk : Memory.wfFrom (a + 1) ((k, w) :: rest) = true := by
        simp only [Memory.wfFrom, Bool.and_eq_true, decide_eq_true_eq]
        exact ⟨⟨by omega, hm.1.2⟩, hm.2⟩
      exact Memory.read_put hk (by omega)
    · split
      · next heq =>
        subst heq
        rw [Memory.read_put hm.2 (by omega)]
        simp only [Memory.read]
        split <;> simp_all
      · simp only [Memory.read]
        split
        · next hb => rw [if_neg (by omega)]
        · exact ih hm.2

/-- A read gives the byte last written there, and a write leaves every other byte alone (R119). -/
theorem Memory.read_write {m : Memory} (hm : m.wf = true) (a b : Nat) (v : Byte) :
    (m.write a v).read b = if b = a then v else m.read b :=
  Memory.read_write_from v hm

/-! ## Equal contents are equal lists -/

theorem Memory.ext_from {lo : Nat} {m n : Memory} (hm : Memory.wfFrom lo m = true) (hn : Memory.wfFrom lo n = true)
    (h : ∀ a, m.read a = n.read a) : m = n := by
  induction m generalizing lo n with
  | nil =>
    cases n with
    | nil => rfl
    | cons c rest =>
      simp only [Memory.wfFrom, Bool.and_eq_true, decide_eq_true_eq] at hn
      have := h c.1
      simp only [Memory.read, if_true] at this
      exact absurd this.symm hn.1.2
  | cons c rest ih =>
    obtain ⟨k, v⟩ := c
    simp only [Memory.wfFrom, Bool.and_eq_true, decide_eq_true_eq] at hm
    cases n with
    | nil =>
      have := h k
      simp only [Memory.read, if_true] at this
      exact absurd this hm.1.2
    | cons d rest' =>
      obtain ⟨k', v'⟩ := d
      simp only [Memory.wfFrom, Bool.and_eq_true, decide_eq_true_eq] at hn
      have hkk : k = k' := by
        rcases Nat.lt_trichotomy k k' with hlt | heq | hgt
        · have := h k
          simp only [Memory.read, if_true] at this
          rw [if_neg (by omega), Memory.read_below hn.2 (by omega)] at this
          exact absurd this hm.1.2
        · exact heq
        · have := h k'
          simp only [Memory.read, if_true] at this
          rw [if_neg (by omega), Memory.read_below hm.2 (by omega)] at this
          exact absurd this.symm hn.1.2
      subst hkk
      have hv := h k
      simp only [Memory.read, if_true] at hv
      subst hv
      have : rest = rest' := by
        apply ih hm.2 hn.2
        intro a
        rcases Nat.lt_or_ge a (k + 1) with hlt | hge
        · rw [Memory.read_below hm.2 hlt, Memory.read_below hn.2 hlt]
        · have := h a
          simp only [Memory.read] at this
          rwa [if_neg (by omega), if_neg (by omega)] at this
      rw [this]

/-- Two canonical memories with the same bytes are the same list. -/
theorem Memory.ext {m n : Memory} (hm : m.wf = true) (hn : n.wf = true) (h : ∀ a, m.read a = n.read a) : m = n :=
  Memory.ext_from hm hn h

/-! ## Only store addresses are listed -/

theorem Memory.onlyStores_put {a : Nat} {v : Byte} {m : Memory} (ha : isStore a = true) (hm : m.onlyStores = true) :
    (Memory.put a v m).onlyStores = true := by
  unfold Memory.put
  split
  · exact hm
  · simpa [Memory.onlyStores, ha] using hm

theorem Memory.onlyStores_write {a : Nat} {m : Memory} (v : Byte) (ha : isStore a = true) (hm : m.onlyStores = true) :
    (m.write a v).onlyStores = true := by
  induction m with
  | nil => exact Memory.onlyStores_put ha rfl
  | cons c rest ih =>
    obtain ⟨k, w⟩ := c
    have hc : isStore k = true ∧ Memory.onlyStores rest = true := by
      simpa [Memory.onlyStores] using hm
    simp only [Memory.write]
    split
    · exact Memory.onlyStores_put ha hm
    · split
      · exact Memory.onlyStores_put ha hc.2
      · simpa [Memory.onlyStores, hc.1] using ih hc.2

/-- What is not a store reads as an unlisted address. -/
theorem Memory.read_noStore {a : Nat} {m : Memory} (hm : m.onlyStores = true) (ha : isStore a = false) :
    m.read a = Config.unlisted := by
  induction m with
  | nil => rfl
  | cons c rest ih =>
    have hc : isStore c.1 = true ∧ Memory.onlyStores rest = true := by simpa [Memory.onlyStores] using hm
    simp only [Memory.read]
    split
    · next h => rw [h, hc.1] at ha; cases ha
    · exact ih hc.2

/-! ## The memory of a launch, cell by cell -/

theorem Memory.wfFrom_image (f : Nat → Byte) (a n : Nat) : Memory.wfFrom a (Memory.image f a n) = true := by
  induction n generalizing a with
  | zero => rfl
  | succ n ih =>
    simp only [Memory.image]
    split
    · exact Memory.wfFrom_put (Nat.le_refl a) (ih (a + 1))
    · exact Memory.wfFrom_mono (by omega) (ih (a + 1))

theorem Memory.onlyStores_image (f : Nat → Byte) (a n : Nat) : (Memory.image f a n).onlyStores = true := by
  induction n generalizing a with
  | zero => rfl
  | succ n ih =>
    simp only [Memory.image]
    split
    · next h => exact Memory.onlyStores_put h (ih (a + 1))
    · exact ih (a + 1)

theorem Memory.read_image (f : Nat → Byte) (a n b : Nat) :
    (Memory.image f a n).read b =
      if a ≤ b ∧ b < a + n ∧ isStore b = true then f b else Config.unlisted := by
  induction n generalizing a with
  | zero => simp only [Memory.image, Memory.read]; rw [if_neg (by omega)]
  | succ n ih =>
    simp only [Memory.image]
    split
    · next h =>
      rw [Memory.read_put (Memory.wfFrom_image f (a + 1) n) (by omega), ih]
      by_cases hb : b = a
      · subst hb; rw [if_pos rfl, if_pos ⟨by omega, by omega, h⟩]
      · rw [if_neg hb]
        congr 1
        apply propext
        constructor
        · rintro ⟨h1, h2, h3⟩; exact ⟨by omega, by omega, h3⟩
        · rintro ⟨h1, h2, h3⟩; exact ⟨by omega, by omega, h3⟩
    · next h =>
      rw [ih]
      congr 1
      apply propext
      constructor
      · rintro ⟨h1, h2, h3⟩; exact ⟨by omega, by omega, h3⟩
      · rintro ⟨h1, h2, h3⟩
        have : b ≠ a := by intro hb; subst hb; exact h h3
        exact ⟨by omega, by omega, h3⟩

end Sys2Proof.Machine
end

