-- ==== Sys2Proof/Laws/Ppu.lean ====
section
/-! SUPPORT. What one dot of the video unit keeps: the invariant `PpuInv`, with no failed check (R572). -/

namespace Sys2Proof.Machine

/-! ## The fetcher -/

theorem Ppu.pushPixels_ok (pixels : List Shade) (p : Ppu) (h : p.bgFifo.length + pixels.length ≤ 16) :
    p.pushPixels pixels = ({ p with bgFifo := p.bgFifo ++ pixels }, none) := by
  induction pixels generalizing p with
  | nil => simp [Ppu.pushPixels]
  | cons c rest ih =>
    simp only [List.length_cons] at h
    simp only [Ppu.pushPixels]
    rw [if_neg (by omega), ih _ (by simp; omega)]
    simp

theorem Ppu.pushRow_ok (p : Ppu) (h : p.bgFifo.length ≤ 8) :
    p.pushRow = ({ p with bgFifo := p.bgFifo ++ (List.range 8).map p.fetch.pixel }, none) :=
  Ppu.pushPixels_ok _ p (by simp; omega)

/-- The four reading dots change the fetcher only. -/
theorem Ppu.fetchPlanes_eq (m : Memory) (p : Ppu) (h : p.fetch.pdot ≤ 4) :
    ∃ f, p.fetchPlanes m = { p with fetch := f } ∧ f.phase = p.fetch.phase ∧ f.pdot ≤ 4 := by
  by_cases hlt : p.fetch.pdot < 4
  · exact ⟨_, if_pos hlt, rfl, hlt⟩
  · exact ⟨p.fetch, if_neg hlt, rfl, h⟩

theorem Ppu.fetchPush_ok {p : Ppu} (hph : p.fetch.phase = .data) (hpd : p.fetch.pdot ≤ 4)
    (hf : p.bgFifo.length ≤ 16) :
    ∃ f q, p.fetchPush = ({ p with fetch := f, bgFifo := q }, none) ∧ q.length ≤ 16 ∧
      f.pdot ≤ 4 ∧ (f.phase = .tile → f.pdot < 2) := by
  unfold Ppu.fetchPush
  split
  · next hc =>
    rw [Ppu.pushRow_ok _ hc.2]
    exact ⟨_, _, rfl, by simpa using hc.2, by simp, by simp⟩
  · exact ⟨p.fetch, p.bgFifo, rfl, hf, hpd, by simp [hph]⟩

/-- One step of the fetcher fails no check; it changes the fetcher and the queue only. -/
theorem Ppu.fetcherStep_ok (m : Memory) {p : Ppu} (hp : PpuInv p) :
    ∃ f q, p.fetcherStep m = ({ p with fetch := f, bgFifo := q }, none) ∧ q.length ≤ 16 ∧
      f.pdot ≤ 4 ∧ (f.phase = .tile → f.pdot < 2) := by
  unfold Ppu.fetcherStep
  split
  · next hph =>
    have := hp.tile_pdot hph
    unfold Ppu.fetchTile
    split
    · exact ⟨_, p.bgFifo, rfl, hp.fifo_le, by simp, by simp⟩
    · exact ⟨_, p.bgFifo, rfl, hp.fifo_le, by simp; omega, fun _ => by simp; omega⟩
  · next hph =>
    obtain ⟨f, hf, hfp, hfd⟩ := Ppu.fetchPlanes_eq m p hp.pdot_le
    obtain ⟨f', q, he, h⟩ :=
      Ppu.fetchPush_ok (p := { p with fetch := f }) (hfp.trans hph) hfd hp.fifo_le
    exact ⟨f', q, by rw [hf, he], h⟩

/-! ## The emitter -/

/-- The emitter fails no check while a column is left; it changes the queue, the discard count, the bitmap and the
column only. -/
theorem Ppu.emitIfReady_ok {p : Ppu} (hx : p.x < 160) (hd : p.discard < 8) (hf : p.bgFifo.length ≤ 16) :
    ∃ q d bm x, p.emitIfReady = ({ p with bgFifo := q, discard := d, bitmap := bm, x := x }, none) ∧
      q.length ≤ 16 ∧ d < 8 ∧ x ≤ 160 := by
  unfold Ppu.emitIfReady
  split
  · unfold Ppu.emitPixel
    split
    · exact ⟨p.bgFifo, p.discard, p.bitmap, p.x, rfl, hf, hd, by omega⟩
    · next c rest hq =>
      have hrest : rest.length ≤ 16 := by
        have := hf
        simp only [hq, List.length_cons] at this
        omega
      dsimp only
      split
      · exact ⟨rest, p.discard - 1, p.bitmap, p.x, rfl, hrest, by omega, by omega⟩
      · rw [if_neg (by omega)]
        exact ⟨rest, p.discard, _, p.x + 1, rfl, hrest, hd, by omega⟩
  · exact ⟨p.bgFifo, p.discard, p.bitmap, p.x, rfl, hf, hd, by omega⟩

/-! ## One dot -/

/-- The work of a drawing dot fails no check; the line goes on drawing, or HBLANK begins in the dot where the column
reaches 160 (R565, R569). -/
theorem Ppu.drawDot_ok (m : Memory) {p : Ppu} (hp : PpuInv p) (hm : p.mode = .draw) :
    ∃ q, p.drawDot m = (q, none) ∧ q.ly = p.ly ∧ q.dot = p.dot ∧ q.spriteBuf = p.spriteBuf ∧
      q.spriteFifo = p.spriteFifo ∧ q.x ≤ 160 ∧ q.discard < 8 ∧ q.bgFifo.length ≤ 16 ∧ q.fetch.pdot ≤ 4 ∧
      (q.fetch.phase = .tile → q.fetch.pdot < 2) ∧ ((q.mode = .draw ∧ q.x < 160) ∨ q.mode = .hblank) := by
  have hly : ¬ 144 ≤ p.ly := fun h => by
    have := hp.vblank_iff.mpr h
    rw [hm] at this
    cases this
  obtain ⟨f, q, hf, hq, hpd, htile⟩ := Ppu.fetcherStep_ok m hp
  obtain ⟨q', d, bm, x, he, hq', hd, hx⟩ :=
    Ppu.emitIfReady_ok (p := { p with fetch := f, bgFifo := q }) (hp.draw_x hm) hp.discard_lt hq
  unfold Ppu.drawDot
  rw [if_neg hly, hf]
  dsimp only
  rw [he]
  dsimp only [Ppu.endDraw]
  by_cases h160 : x = 160
  · rw [if_pos h160]
    exact ⟨_, rfl, rfl, rfl, rfl, rfl, hx, hd, hq', hpd, htile, .inr rfl⟩
  · rw [if_neg h160]
    exact ⟨_, rfl, rfl, rfl, rfl, rfl, hx, hd, hq', hpd, htile, .inl ⟨hm, by simp; omega⟩⟩

/-- The invariant without the link between mode and dot, as it holds between the work of a dot and its advance. -/
structure DotDone (p : Ppu) : Prop where
  ly_lt       : p.ly < 154
  dot_lt      : p.dot < 456
  vblank_iff  : p.mode = .vblank ↔ 144 ≤ p.ly
  scan_dot    : p.mode = .oamScan → p.dot + 1 < 80
  draw_dot    : p.mode = .draw → 79 ≤ p.dot
  draw_x      : p.mode = .draw → p.x < 160
  x_le        : p.x ≤ 160
  tile_pdot   : p.fetch.phase = .tile → p.fetch.pdot < 2
  pdot_le     : p.fetch.pdot ≤ 4
  discard_lt  : p.discard < 8
  fifo_le     : p.bgFifo.length ≤ 16
  sprites_le  : p.spriteBuf.length ≤ 10
  sprite_fifo : p.spriteFifo = []

theorem Ppu.scanEntry_eq (m : Memory) (p : Ppu) (h : p.spriteBuf.length ≤ 10) :
    ∃ b, p.scanEntry m = { p with spriteBuf := b } ∧ b.length ≤ 10 := by
  unfold Ppu.scanEntry
  split
  · refine ⟨_, rfl, ?_⟩
    split
    · next hk =>
      have : p.spriteBuf.length < 10 := by
        simp only [Ppu.keeps, Bool.and_eq_true, decide_eq_true_eq] at hk
        exact hk.2
      simp; omega
    · exact h
  · exact ⟨p.spriteBuf, rfl, h⟩

theorem Ppu.oamScanDot_done (m : Memory) {p : Ppu} (hp : PpuInv p) (hm : p.mode = .oamScan) :
    DotDone (p.oamScanDot m) ∧ (p.oamScanDot m).ly = p.ly ∧ (p.oamScanDot m).dot = p.dot := by
  obtain ⟨b, hb, hlen⟩ := Ppu.scanEntry_eq m p hp.sprites_le
  have hdot := hp.scan_dot hm
  have hly : ¬ 144 ≤ p.ly := fun h => by
    have := hp.vblank_iff.mpr h
    rw [hm] at this
    cases this
  unfold Ppu.oamScanDot
  rw [hb]
  dsimp only
  split
  · next h79 =>
    refine ⟨⟨hp.ly_lt, hp.dot_lt, ?_, ?_, ?_, ?_, ?_, ?_, ?_, ?_, ?_, hlen, hp.sprite_fifo⟩, rfl, rfl⟩ <;>
      simp [Ppu.drawInit, Fetch.start, h79] <;> omega
  · next h79 =>
    refine ⟨⟨hp.ly_lt, hp.dot_lt, hp.vblank_iff, fun _ => by dsimp only; omega, ?_, ?_, hp.x_le, hp.tile_pdot,
      hp.pdot_le, hp.discard_lt, hp.fifo_le, hlen, hp.sprite_fifo⟩, rfl, rfl⟩ <;> simp [hm]

/-- The work of a dot fails no check and leaves the position alone. -/
theorem Ppu.modeDot_ok (m : Memory) {p : Ppu} (hp : PpuInv p) :
    ∃ q, p.modeDot m = (q, none) ∧ DotDone q ∧ q.ly = p.ly ∧ q.dot = p.dot := by
  unfold Ppu.modeDot
  split
  · next hm => exact ⟨_, rfl, Ppu.oamScanDot_done m hp hm⟩
  · next hm =>
    obtain ⟨q, hq, hly, hdot, hb, hs, hx, hd, hf, hpd, htile, hmode⟩ := Ppu.drawDot_ok m hp hm
    have hl : ¬ 144 ≤ p.ly := fun h => by
      have := hp.vblank_iff.mpr h
      rw [hm] at this
      cases this
    have h80 := hp.draw_dot hm
    refine ⟨q, hq, ⟨hly ▸ hp.ly_lt, hdot ▸ hp.dot_lt, ?_, ?_, ?_, ?_, hx, htile, hpd, hd, hf, hb ▸ hp.sprites_le,
      hs ▸ hp.sprite_fifo⟩, hly, hdot⟩
    · rcases hmode with ⟨h, _⟩ | h <;> simp [h, hly] <;> omega
    · rcases hmode with ⟨h, _⟩ | h <;> simp [h]
    · intro _; omega
    · rcases hmode with ⟨h, hx⟩ | h
      · exact fun _ => hx
      · simp [h]
  · next hm =>
    refine ⟨p, rfl, ⟨hp.ly_lt, hp.dot_lt, hp.vblank_iff, ?_, ?_, ?_, hp.x_le, hp.tile_pdot, hp.pdot_le, hp.discard_lt,
      hp.fifo_le, hp.sprites_le, hp.sprite_fifo⟩, rfl, rfl⟩ <;> simp [hm]
  · next hm =>
    refine ⟨p, rfl, ⟨hp.ly_lt, hp.dot_lt, hp.vblank_iff, ?_, ?_, ?_, hp.x_le, hp.tile_pdot, hp.pdot_le, hp.discard_lt,
      hp.fifo_le, hp.sprites_le, hp.sprite_fifo⟩, rfl, rfl⟩ <;> simp [hm]

/-- The advance of the position gives back the invariant, one dot further in the frame (R562, R571). -/
theorem Ppu.advance_inv {p : Ppu} (hp : DotDone p) :
    PpuInv p.advance.1 ∧ p.advance.1.position = (p.position + 1) % 70224 ∧
      (p.advance.2 = true ↔ p.advance.1.position = 456 * 144) := by
  obtain ⟨h1, h2, h3, h4, h5, h6, h7, h8, h9, h10, h11, h12, h13⟩ := hp
  unfold Ppu.advance
  split
  · next hd =>
    unfold Ppu.nextLine
    dsimp only
    split
    · next hl =>
      refine ⟨⟨by simp; omega, by simp, by simp; omega, by simp, by simp, by simp, h7, h8, h9, h10, h11, h12, h13⟩,
        ?_, ?_⟩ <;> simp [Ppu.position] <;> omega
    · split
      · next hl =>
        refine ⟨⟨by simp [Ppu.startLine], by simp [Ppu.startLine], by simp [Ppu.startLine], by simp [Ppu.startLine],
          by simp [Ppu.startLine], by simp [Ppu.startLine], h7, h8, h9, h10, h11, by simp [Ppu.startLine], h13⟩,
          ?_, ?_⟩ <;> simp [Ppu.position, Ppu.startLine] <;> omega
      · split
        · next hl =>
          refine ⟨⟨by simp [Ppu.startLine]; omega, by simp [Ppu.startLine], by simp [Ppu.startLine]; omega,
            by simp [Ppu.startLine], by simp [Ppu.startLine], by simp [Ppu.startLine], h7, h8, h9, h10, h11,
            by simp [Ppu.startLine], h13⟩, ?_, ?_⟩ <;> simp [Ppu.position, Ppu.startLine] <;> omega
        · next hl =>
          have hv : p.mode = .vblank := h3.mpr (by omega)
          refine ⟨⟨by simp; omega, by simp, by simp [hv]; omega, by simp [hv], by simp [hv], by simp [hv], h7, h8, h9,
            h10, h11, h12, h13⟩, ?_, ?_⟩ <;> simp [Ppu.position] <;> omega
  · next hd =>
    refine ⟨⟨h1, by simp; omega, h3, fun h => by simpa using h4 h, fun h => by have := h5 h; simp; omega, h6, h7, h8, h9,
      h10, h11, h12, h13⟩, ?_, ?_⟩ <;> simp [Ppu.position] <;> omega

/-- One dot: no failed check, the invariant kept, the position one further, VBlank requested exactly on entering line
144. -/
theorem PpuRun.dot_ok (m : Memory) {r : PpuRun} (hr : r.fault = none) (hp : PpuInv r.ppu) :
    (r.dot m).fault = none ∧ PpuInv (r.dot m).ppu ∧ (r.dot m).ppu.position = (r.ppu.position + 1) % 70224 ∧
      ((r.dot m).vblank = true ↔ r.vblank = true ∨ (r.dot m).ppu.position = 456 * 144) := by
  obtain ⟨q, hq, hdone, hly, hdot⟩ := Ppu.modeDot_ok m hp
  obtain ⟨hinv, hpos, hvb⟩ := Ppu.advance_inv hdone
  unfold PpuRun.dot
  rw [hr]
  dsimp only
  rw [hq]
  dsimp only
  refine ⟨rfl, hinv, ?_, ?_⟩
  · rw [hpos]; simp [Ppu.position, hly, hdot]
  · rw [Bool.or_eq_true, hvb]

/-! ## Register writes and the start -/

/-- The video unit of every launch meets the invariant, whatever its video registers. -/
theorem PpuInv.launch (rs : ResetState) : PpuInv rs.ppu := by
  constructor <;> simp [ResetState.ppu, Fetch.start]

theorem PpuInv.powerOn : PpuInv Ppu.powerOn := PpuInv.launch _

theorem Ppu.writeLcdc_inv (v : Byte) {p : Ppu} (hp : PpuInv p) : PpuInv (p.writeLcdc v) := by
  unfold Ppu.writeLcdc
  split
  · exact ⟨hp.1, hp.2, hp.3, hp.4, hp.5, hp.6, hp.7, hp.8, hp.9, hp.10, hp.11, hp.12, hp.13⟩
  · constructor <;> simp [Ppu.restart, Fetch.start, hp.sprite_fifo]

end Sys2Proof.Machine
end

