-- ==== Sys2Proof/Laws/State.lean ====
section
/-! SUPPORT. One lemma for each field and each update of the state: what the update leaves in the field. Each is true by
unfolding, so that no later proof unfolds an update. -/

namespace Sys2Proof.Machine

open Sys2Proof

section
variable (s : State) (r : R8) (v : Byte)
@[simp] theorem setR8_ime : (s.setR8 r v).ime = s.ime := rfl
@[simp] theorem setR8_eiPending : (s.setR8 r v).eiPending = s.eiPending := rfl
@[simp] theorem setR8_halted : (s.setR8 r v).halted = s.halted := rfl
@[simp] theorem setR8_haltBug : (s.setR8 r v).haltBug = s.haltBug := rfl
@[simp] theorem setR8_fault : (s.setR8 r v).fault = s.fault := rfl
@[simp] theorem setR8_cycles : (s.setR8 r v).cycles = s.cycles := rfl
@[simp] theorem setR8_opPC : (s.setR8 r v).opPC = s.opPC := rfl
@[simp] theorem setR8_ie : (s.setR8 r v).ie = s.ie := rfl
@[simp] theorem setR8_intFlag : (s.setR8 r v).intFlag = s.intFlag := rfl
@[simp] theorem setR8_timer : (s.setR8 r v).timer = s.timer := rfl
@[simp] theorem setR8_ppu : (s.setR8 r v).ppu = s.ppu := rfl
@[simp] theorem setR8_audio : (s.setR8 r v).audio = s.audio := rfl
@[simp] theorem setR8_mem : (s.setR8 r v).mem = s.mem := rfl
@[simp] theorem setR8_params : (s.setR8 r v).params = s.params := rfl
end

section
variable (s : State) (rr : R16) (v : Word)
@[simp] theorem setR16_ime : (s.setR16 rr v).ime = s.ime := rfl
@[simp] theorem setR16_eiPending : (s.setR16 rr v).eiPending = s.eiPending := rfl
@[simp] theorem setR16_halted : (s.setR16 rr v).halted = s.halted := rfl
@[simp] theorem setR16_haltBug : (s.setR16 rr v).haltBug = s.haltBug := rfl
@[simp] theorem setR16_fault : (s.setR16 rr v).fault = s.fault := rfl
@[simp] theorem setR16_cycles : (s.setR16 rr v).cycles = s.cycles := rfl
@[simp] theorem setR16_opPC : (s.setR16 rr v).opPC = s.opPC := rfl
@[simp] theorem setR16_ie : (s.setR16 rr v).ie = s.ie := rfl
@[simp] theorem setR16_intFlag : (s.setR16 rr v).intFlag = s.intFlag := rfl
@[simp] theorem setR16_timer : (s.setR16 rr v).timer = s.timer := rfl
@[simp] theorem setR16_ppu : (s.setR16 rr v).ppu = s.ppu := rfl
@[simp] theorem setR16_audio : (s.setR16 rr v).audio = s.audio := rfl
@[simp] theorem setR16_mem : (s.setR16 rr v).mem = s.mem := rfl
@[simp] theorem setR16_params : (s.setR16 rr v).params = s.params := rfl
end

section
variable (s : State) (rr : R16Stk) (v : Word)
@[simp] theorem setStk_ime : (s.setStk rr v).ime = s.ime := rfl
@[simp] theorem setStk_eiPending : (s.setStk rr v).eiPending = s.eiPending := rfl
@[simp] theorem setStk_halted : (s.setStk rr v).halted = s.halted := rfl
@[simp] theorem setStk_haltBug : (s.setStk rr v).haltBug = s.haltBug := rfl
@[simp] theorem setStk_fault : (s.setStk rr v).fault = s.fault := rfl
@[simp] theorem setStk_cycles : (s.setStk rr v).cycles = s.cycles := rfl
@[simp] theorem setStk_opPC : (s.setStk rr v).opPC = s.opPC := rfl
@[simp] theorem setStk_ie : (s.setStk rr v).ie = s.ie := rfl
@[simp] theorem setStk_intFlag : (s.setStk rr v).intFlag = s.intFlag := rfl
@[simp] theorem setStk_timer : (s.setStk rr v).timer = s.timer := rfl
@[simp] theorem setStk_ppu : (s.setStk rr v).ppu = s.ppu := rfl
@[simp] theorem setStk_audio : (s.setStk rr v).audio = s.audio := rfl
@[simp] theorem setStk_mem : (s.setStk rr v).mem = s.mem := rfl
@[simp] theorem setStk_params : (s.setStk rr v).params = s.params := rfl
end

section
variable (s : State) (f : Flags)
@[simp] theorem setFlags_ime : (s.setFlags f).ime = s.ime := rfl
@[simp] theorem setFlags_eiPending : (s.setFlags f).eiPending = s.eiPending := rfl
@[simp] theorem setFlags_halted : (s.setFlags f).halted = s.halted := rfl
@[simp] theorem setFlags_haltBug : (s.setFlags f).haltBug = s.haltBug := rfl
@[simp] theorem setFlags_fault : (s.setFlags f).fault = s.fault := rfl
@[simp] theorem setFlags_cycles : (s.setFlags f).cycles = s.cycles := rfl
@[simp] theorem setFlags_opPC : (s.setFlags f).opPC = s.opPC := rfl
@[simp] theorem setFlags_ie : (s.setFlags f).ie = s.ie := rfl
@[simp] theorem setFlags_intFlag : (s.setFlags f).intFlag = s.intFlag := rfl
@[simp] theorem setFlags_timer : (s.setFlags f).timer = s.timer := rfl
@[simp] theorem setFlags_ppu : (s.setFlags f).ppu = s.ppu := rfl
@[simp] theorem setFlags_audio : (s.setFlags f).audio = s.audio := rfl
@[simp] theorem setFlags_mem : (s.setFlags f).mem = s.mem := rfl
@[simp] theorem setFlags_params : (s.setFlags f).params = s.params := rfl
end

section
variable (s : State) (v : Word)
@[simp] theorem setPC_ime : (s.setPC v).ime = s.ime := rfl
@[simp] theorem setPC_eiPending : (s.setPC v).eiPending = s.eiPending := rfl
@[simp] theorem setPC_halted : (s.setPC v).halted = s.halted := rfl
@[simp] theorem setPC_haltBug : (s.setPC v).haltBug = s.haltBug := rfl
@[simp] theorem setPC_fault : (s.setPC v).fault = s.fault := rfl
@[simp] theorem setPC_cycles : (s.setPC v).cycles = s.cycles := rfl
@[simp] theorem setPC_opPC : (s.setPC v).opPC = s.opPC := rfl
@[simp] theorem setPC_ie : (s.setPC v).ie = s.ie := rfl
@[simp] theorem setPC_intFlag : (s.setPC v).intFlag = s.intFlag := rfl
@[simp] theorem setPC_timer : (s.setPC v).timer = s.timer := rfl
@[simp] theorem setPC_ppu : (s.setPC v).ppu = s.ppu := rfl
@[simp] theorem setPC_audio : (s.setPC v).audio = s.audio := rfl
@[simp] theorem setPC_mem : (s.setPC v).mem = s.mem := rfl
@[simp] theorem setPC_params : (s.setPC v).params = s.params := rfl
end

section
variable (s : State) (v : Word)
@[simp] theorem setSP_ime : (s.setSP v).ime = s.ime := rfl
@[simp] theorem setSP_eiPending : (s.setSP v).eiPending = s.eiPending := rfl
@[simp] theorem setSP_halted : (s.setSP v).halted = s.halted := rfl
@[simp] theorem setSP_haltBug : (s.setSP v).haltBug = s.haltBug := rfl
@[simp] theorem setSP_fault : (s.setSP v).fault = s.fault := rfl
@[simp] theorem setSP_cycles : (s.setSP v).cycles = s.cycles := rfl
@[simp] theorem setSP_opPC : (s.setSP v).opPC = s.opPC := rfl
@[simp] theorem setSP_ie : (s.setSP v).ie = s.ie := rfl
@[simp] theorem setSP_intFlag : (s.setSP v).intFlag = s.intFlag := rfl
@[simp] theorem setSP_timer : (s.setSP v).timer = s.timer := rfl
@[simp] theorem setSP_ppu : (s.setSP v).ppu = s.ppu := rfl
@[simp] theorem setSP_audio : (s.setSP v).audio = s.audio := rfl
@[simp] theorem setSP_mem : (s.setSP v).mem = s.mem := rfl
@[simp] theorem setSP_params : (s.setSP v).params = s.params := rfl
end

section
variable (s : State) (r : Byte × Flags)
@[simp] theorem setAF_ime : (s.setAF r).ime = s.ime := rfl
@[simp] theorem setAF_eiPending : (s.setAF r).eiPending = s.eiPending := rfl
@[simp] theorem setAF_halted : (s.setAF r).halted = s.halted := rfl
@[simp] theorem setAF_haltBug : (s.setAF r).haltBug = s.haltBug := rfl
@[simp] theorem setAF_fault : (s.setAF r).fault = s.fault := rfl
@[simp] theorem setAF_cycles : (s.setAF r).cycles = s.cycles := rfl
@[simp] theorem setAF_opPC : (s.setAF r).opPC = s.opPC := rfl
@[simp] theorem setAF_ie : (s.setAF r).ie = s.ie := rfl
@[simp] theorem setAF_intFlag : (s.setAF r).intFlag = s.intFlag := rfl
@[simp] theorem setAF_timer : (s.setAF r).timer = s.timer := rfl
@[simp] theorem setAF_ppu : (s.setAF r).ppu = s.ppu := rfl
@[simp] theorem setAF_audio : (s.setAF r).audio = s.audio := rfl
@[simp] theorem setAF_mem : (s.setAF r).mem = s.mem := rfl
@[simp] theorem setAF_params : (s.setAF r).params = s.params := rfl
end

section
variable (s : State)
@[simp] theorem requestVBlank_regs : (requestVBlank s).regs = s.regs := rfl
@[simp] theorem requestVBlank_ime : (requestVBlank s).ime = s.ime := rfl
@[simp] theorem requestVBlank_eiPending : (requestVBlank s).eiPending = s.eiPending := rfl
@[simp] theorem requestVBlank_halted : (requestVBlank s).halted = s.halted := rfl
@[simp] theorem requestVBlank_haltBug : (requestVBlank s).haltBug = s.haltBug := rfl
@[simp] theorem requestVBlank_fault : (requestVBlank s).fault = s.fault := rfl
@[simp] theorem requestVBlank_cycles : (requestVBlank s).cycles = s.cycles := rfl
@[simp] theorem requestVBlank_opPC : (requestVBlank s).opPC = s.opPC := rfl
@[simp] theorem requestVBlank_ie : (requestVBlank s).ie = s.ie := rfl
@[simp] theorem requestVBlank_timer : (requestVBlank s).timer = s.timer := rfl
@[simp] theorem requestVBlank_ppu : (requestVBlank s).ppu = s.ppu := rfl
@[simp] theorem requestVBlank_audio : (requestVBlank s).audio = s.audio := rfl
@[simp] theorem requestVBlank_mem : (requestVBlank s).mem = s.mem := rfl
@[simp] theorem requestVBlank_params : (requestVBlank s).params = s.params := rfl
end

section
variable (s : State)
@[simp] theorem requestTimer_regs : (requestTimer s).regs = s.regs := rfl
@[simp] theorem requestTimer_ime : (requestTimer s).ime = s.ime := rfl
@[simp] theorem requestTimer_eiPending : (requestTimer s).eiPending = s.eiPending := rfl
@[simp] theorem requestTimer_halted : (requestTimer s).halted = s.halted := rfl
@[simp] theorem requestTimer_haltBug : (requestTimer s).haltBug = s.haltBug := rfl
@[simp] theorem requestTimer_fault : (requestTimer s).fault = s.fault := rfl
@[simp] theorem requestTimer_cycles : (requestTimer s).cycles = s.cycles := rfl
@[simp] theorem requestTimer_opPC : (requestTimer s).opPC = s.opPC := rfl
@[simp] theorem requestTimer_ie : (requestTimer s).ie = s.ie := rfl
@[simp] theorem requestTimer_timer : (requestTimer s).timer = s.timer := rfl
@[simp] theorem requestTimer_ppu : (requestTimer s).ppu = s.ppu := rfl
@[simp] theorem requestTimer_audio : (requestTimer s).audio = s.audio := rfl
@[simp] theorem requestTimer_mem : (requestTimer s).mem = s.mem := rfl
@[simp] theorem requestTimer_params : (requestTimer s).params = s.params := rfl
end

section
variable (s : State)
@[simp] theorem audioTick_regs : (audioTick s).regs = s.regs := rfl
@[simp] theorem audioTick_ime : (audioTick s).ime = s.ime := rfl
@[simp] theorem audioTick_eiPending : (audioTick s).eiPending = s.eiPending := rfl
@[simp] theorem audioTick_halted : (audioTick s).halted = s.halted := rfl
@[simp] theorem audioTick_haltBug : (audioTick s).haltBug = s.haltBug := rfl
@[simp] theorem audioTick_fault : (audioTick s).fault = s.fault := rfl
@[simp] theorem audioTick_cycles : (audioTick s).cycles = s.cycles := rfl
@[simp] theorem audioTick_opPC : (audioTick s).opPC = s.opPC := rfl
@[simp] theorem audioTick_ie : (audioTick s).ie = s.ie := rfl
@[simp] theorem audioTick_intFlag : (audioTick s).intFlag = s.intFlag := rfl
@[simp] theorem audioTick_timer : (audioTick s).timer = s.timer := rfl
@[simp] theorem audioTick_ppu : (audioTick s).ppu = s.ppu := rfl
@[simp] theorem audioTick_mem : (audioTick s).mem = s.mem := rfl
@[simp] theorem audioTick_params : (audioTick s).params = s.params := rfl
end

section
variable (s : State) (a : Word) (w : Option Byte)
@[simp] theorem audioAccess_regs : (audioAccess a w s).regs = s.regs := rfl
@[simp] theorem audioAccess_ime : (audioAccess a w s).ime = s.ime := rfl
@[simp] theorem audioAccess_eiPending : (audioAccess a w s).eiPending = s.eiPending := rfl
@[simp] theorem audioAccess_halted : (audioAccess a w s).halted = s.halted := rfl
@[simp] theorem audioAccess_haltBug : (audioAccess a w s).haltBug = s.haltBug := rfl
@[simp] theorem audioAccess_fault : (audioAccess a w s).fault = s.fault := rfl
@[simp] theorem audioAccess_cycles : (audioAccess a w s).cycles = s.cycles := rfl
@[simp] theorem audioAccess_opPC : (audioAccess a w s).opPC = s.opPC := rfl
@[simp] theorem audioAccess_ie : (audioAccess a w s).ie = s.ie := rfl
@[simp] theorem audioAccess_intFlag : (audioAccess a w s).intFlag = s.intFlag := rfl
@[simp] theorem audioAccess_timer : (audioAccess a w s).timer = s.timer := rfl
@[simp] theorem audioAccess_ppu : (audioAccess a w s).ppu = s.ppu := rfl
@[simp] theorem audioAccess_mem : (audioAccess a w s).mem = s.mem := rfl
@[simp] theorem audioAccess_params : (audioAccess a w s).params = s.params := rfl
end

section
variable (s : State) (a : Word) (v : Byte)
@[simp] theorem storeByte_regs : (storeByte a v s).regs = s.regs := rfl
@[simp] theorem storeByte_ime : (storeByte a v s).ime = s.ime := rfl
@[simp] theorem storeByte_eiPending : (storeByte a v s).eiPending = s.eiPending := rfl
@[simp] theorem storeByte_halted : (storeByte a v s).halted = s.halted := rfl
@[simp] theorem storeByte_haltBug : (storeByte a v s).haltBug = s.haltBug := rfl
@[simp] theorem storeByte_fault : (storeByte a v s).fault = s.fault := rfl
@[simp] theorem storeByte_cycles : (storeByte a v s).cycles = s.cycles := rfl
@[simp] theorem storeByte_opPC : (storeByte a v s).opPC = s.opPC := rfl
@[simp] theorem storeByte_ie : (storeByte a v s).ie = s.ie := rfl
@[simp] theorem storeByte_intFlag : (storeByte a v s).intFlag = s.intFlag := rfl
@[simp] theorem storeByte_timer : (storeByte a v s).timer = s.timer := rfl
@[simp] theorem storeByte_ppu : (storeByte a v s).ppu = s.ppu := rfl
@[simp] theorem storeByte_audio : (storeByte a v s).audio = s.audio := rfl
@[simp] theorem storeByte_params : (storeByte a v s).params = s.params := rfl
end

section
variable (s : State)
@[simp] theorem beginStep_regs : (beginStep s).regs = s.regs := rfl
@[simp] theorem beginStep_ime : (beginStep s).ime = s.ime := rfl
@[simp] theorem beginStep_eiPending : (beginStep s).eiPending = s.eiPending := rfl
@[simp] theorem beginStep_halted : (beginStep s).halted = s.halted := rfl
@[simp] theorem beginStep_haltBug : (beginStep s).haltBug = s.haltBug := rfl
@[simp] theorem beginStep_fault : (beginStep s).fault = s.fault := rfl
@[simp] theorem beginStep_cycles : (beginStep s).cycles = s.cycles := rfl
@[simp] theorem beginStep_ie : (beginStep s).ie = s.ie := rfl
@[simp] theorem beginStep_intFlag : (beginStep s).intFlag = s.intFlag := rfl
@[simp] theorem beginStep_timer : (beginStep s).timer = s.timer := rfl
@[simp] theorem beginStep_ppu : (beginStep s).ppu = s.ppu := rfl
@[simp] theorem beginStep_audio : (beginStep s).audio = s.audio := rfl
@[simp] theorem beginStep_mem : (beginStep s).mem = s.mem := rfl
@[simp] theorem beginStep_params : (beginStep s).params = s.params := rfl
end

section
variable (s : State)
@[simp] theorem wake_regs : (wake s).regs = s.regs := rfl
@[simp] theorem wake_ime : (wake s).ime = s.ime := rfl
@[simp] theorem wake_eiPending : (wake s).eiPending = s.eiPending := rfl
@[simp] theorem wake_haltBug : (wake s).haltBug = s.haltBug := rfl
@[simp] theorem wake_fault : (wake s).fault = s.fault := rfl
@[simp] theorem wake_cycles : (wake s).cycles = s.cycles := rfl
@[simp] theorem wake_opPC : (wake s).opPC = s.opPC := rfl
@[simp] theorem wake_ie : (wake s).ie = s.ie := rfl
@[simp] theorem wake_intFlag : (wake s).intFlag = s.intFlag := rfl
@[simp] theorem wake_timer : (wake s).timer = s.timer := rfl
@[simp] theorem wake_ppu : (wake s).ppu = s.ppu := rfl
@[simp] theorem wake_audio : (wake s).audio = s.audio := rfl
@[simp] theorem wake_mem : (wake s).mem = s.mem := rfl
@[simp] theorem wake_params : (wake s).params = s.params := rfl
end

section
variable (s : State)
@[simp] theorem acceptInterrupt_regs : (acceptInterrupt s).regs = s.regs := rfl
@[simp] theorem acceptInterrupt_fault : (acceptInterrupt s).fault = s.fault := rfl
@[simp] theorem acceptInterrupt_cycles : (acceptInterrupt s).cycles = s.cycles := rfl
@[simp] theorem acceptInterrupt_opPC : (acceptInterrupt s).opPC = s.opPC := rfl
@[simp] theorem acceptInterrupt_ie : (acceptInterrupt s).ie = s.ie := rfl
@[simp] theorem acceptInterrupt_timer : (acceptInterrupt s).timer = s.timer := rfl
@[simp] theorem acceptInterrupt_ppu : (acceptInterrupt s).ppu = s.ppu := rfl
@[simp] theorem acceptInterrupt_audio : (acceptInterrupt s).audio = s.audio := rfl
@[simp] theorem acceptInterrupt_mem : (acceptInterrupt s).mem = s.mem := rfl
@[simp] theorem acceptInterrupt_params : (acceptInterrupt s).params = s.params := rfl
end

/-! ## The register file -/

section
variable (s : State) (r : R8) (v : Byte) (w : Word) (f : Flags) (rr : R16)

@[simp] theorem setR8_flags : (s.setR8 r v).flags = s.flags := by cases r <;> rfl
@[simp] theorem setR8_sp : (s.setR8 r v).sp = s.sp := by cases r <;> rfl
@[simp] theorem setR8_pc : (s.setR8 r v).pc = s.pc := by cases r <;> rfl
@[simp] theorem setFlags_r8 (q : R8) : (s.setFlags f).r8 q = s.r8 q := by cases q <;> rfl
@[simp] theorem setFlags_sp : (s.setFlags f).sp = s.sp := rfl
@[simp] theorem setFlags_pc : (s.setFlags f).pc = s.pc := rfl
@[simp] theorem setFlags_r16 (q : R16) : (s.setFlags f).r16 q = s.r16 q := by cases q <;> rfl
@[simp] theorem setPC_flags : (s.setPC w).flags = s.flags := rfl
@[simp] theorem setPC_sp : (s.setPC w).sp = s.sp := rfl
@[simp] theorem setPC_r8 (q : R8) : (s.setPC w).r8 q = s.r8 q := by cases q <;> rfl
@[simp] theorem setPC_r16 (q : R16) : (s.setPC w).r16 q = s.r16 q := by cases q <;> rfl
@[simp] theorem setSP_flags : (s.setSP w).flags = s.flags := rfl
@[simp] theorem setSP_pc : (s.setSP w).pc = s.pc := rfl
@[simp] theorem setSP_r8 (q : R8) : (s.setSP w).r8 q = s.r8 q := by cases q <;> rfl
@[simp] theorem setFlags_flags : (s.setFlags f).flags = f := rfl
@[simp] theorem setPC_pc : (s.setPC w).pc = w := rfl
@[simp] theorem setSP_sp : (s.setSP w).sp = w := rfl
@[simp] theorem setR8_r8_same : (s.setR8 r v).r8 r = v := by cases r <;> rfl
@[simp] theorem setR16_pc : (s.setR16 rr w).pc = s.pc := by cases rr <;> rfl
@[simp] theorem setR16_flags : (s.setR16 rr w).flags = s.flags := by cases rr <;> rfl

theorem setR8_r8_other (q : R8) (h : q ≠ r) : (s.setR8 r v).r8 q = s.r8 q := by
  cases r <;> cases q <;> first | exact absurd rfl h | rfl

/-- A pair reads what was written to it (R41). -/
@[simp] theorem setR16_r16_same : (s.setR16 rr w).r16 rr = w := by
  cases rr <;> simp [State.setR16, State.r16, Regs.setPair, Regs.getPair, ofBytes_halves]

end

end Sys2Proof.Machine
end

