-- ==== Sys2Proof/Laws/Ops.lean ====
section
/-! SUPPORT. What each shared operation does, said once: a bus cycle of a state that meets the invariant completes, and
what it keeps. -/

namespace Sys2Proof.Machine

open Sys2Proof

/-! ## Res -/

@[simp] theorem Res.ok_bind {α β : Type} (v : α) (s : State) (k : α → State → Res β) : (Res.ok v s).bind k = k v s := rfl
@[simp] theorem Res.stop_bind {α β : Type} (s : State) (k : α → State → Res β) : (Res.stop s : Res α).bind k = .stop s := rfl
@[simp] theorem Res.ok_state {α : Type} (v : α) (s : State) : (Res.ok v s).state = s := rfl
@[simp] theorem Res.stop_state {α : Type} (s : State) : (Res.stop s : Res α).state = s := rfl
@[simp] theorem Res.ok_finish (s : State) : (Res.ok () s).finish = .next s := rfl
@[simp] theorem Res.stop_finish (s : State) : (Res.stop s : Res Unit).finish = .next s := rfl

/-! ## The tick -/

/-- Four dots of a running display, or none (R560). -/
theorem Ppu.tick_ok (m : Memory) {p : Ppu} (hp : PpuInv p) : (p.tick m).fault = none ∧ PpuInv (p.tick m).ppu := by
  unfold Ppu.tick
  split
  · have h1 := PpuRun.dot_ok m (r := PpuRun.start p) rfl hp
    have h2 := PpuRun.dot_ok m h1.1 h1.2.1
    have h3 := PpuRun.dot_ok m h2.1 h2.2.1
    have h4 := PpuRun.dot_ok m h3.1 h3.2.1
    exact ⟨h4.1, h4.2.1⟩
  · exact ⟨rfl, hp⟩

theorem ppuTick_ok {s : State} (hp : PpuInv s.ppu) : ppuTick s = .ok () (applyPpu (s.ppu.tick s.mem) s) := by
  unfold ppuTick
  simp only [(Ppu.tick_ok s.mem hp).1]

section
variable (r : Timer × Bool) (s : State)

@[simp] theorem applyTimer_regs : (applyTimer r s).regs = s.regs := by unfold applyTimer; split <;> rfl
@[simp] theorem applyTimer_ime : (applyTimer r s).ime = s.ime := by unfold applyTimer; split <;> rfl
@[simp] theorem applyTimer_eiPending : (applyTimer r s).eiPending = s.eiPending := by unfold applyTimer; split <;> rfl
@[simp] theorem applyTimer_halted : (applyTimer r s).halted = s.halted := by unfold applyTimer; split <;> rfl
@[simp] theorem applyTimer_haltBug : (applyTimer r s).haltBug = s.haltBug := by unfold applyTimer; split <;> rfl
@[simp] theorem applyTimer_fault : (applyTimer r s).fault = s.fault := by unfold applyTimer; split <;> rfl
@[simp] theorem applyTimer_cycles : (applyTimer r s).cycles = s.cycles := by unfold applyTimer; split <;> rfl
@[simp] theorem applyTimer_opPC : (applyTimer r s).opPC = s.opPC := by unfold applyTimer; split <;> rfl
@[simp] theorem applyTimer_ie : (applyTimer r s).ie = s.ie := by unfold applyTimer; split <;> rfl
@[simp] theorem applyTimer_ppu : (applyTimer r s).ppu = s.ppu := by unfold applyTimer; split <;> rfl
@[simp] theorem applyTimer_audio : (applyTimer r s).audio = s.audio := by unfold applyTimer; split <;> rfl
@[simp] theorem applyTimer_mem : (applyTimer r s).mem = s.mem := by unfold applyTimer; split <;> rfl
@[simp] theorem applyTimer_params : (applyTimer r s).params = s.params := by unfold applyTimer; split <;> rfl
@[simp] theorem applyTimer_timer : (applyTimer r s).timer = r.1 := by unfold applyTimer; split <;> rfl
@[simp] theorem applyTimer_intFlag :
    (applyTimer r s).intFlag = if r.2 then s.intFlag ||| 0b00100 else s.intFlag := by
  unfold applyTimer; split <;> rfl

end

section
variable (r : PpuRun) (s : State)

@[simp] theorem applyPpu_regs : (applyPpu r s).regs = s.regs := by unfold applyPpu; split <;> rfl
@[simp] theorem applyPpu_ime : (applyPpu r s).ime = s.ime := by unfold applyPpu; split <;> rfl
@[simp] theorem applyPpu_eiPending : (applyPpu r s).eiPending = s.eiPending := by unfold applyPpu; split <;> rfl
@[simp] theorem applyPpu_halted : (applyPpu r s).halted = s.halted := by unfold applyPpu; split <;> rfl
@[simp] theorem applyPpu_haltBug : (applyPpu r s).haltBug = s.haltBug := by unfold applyPpu; split <;> rfl
@[simp] theorem applyPpu_fault : (applyPpu r s).fault = s.fault := by unfold applyPpu; split <;> rfl
@[simp] theorem applyPpu_cycles : (applyPpu r s).cycles = s.cycles := by unfold applyPpu; split <;> rfl
@[simp] theorem applyPpu_opPC : (applyPpu r s).opPC = s.opPC := by unfold applyPpu; split <;> rfl
@[simp] theorem applyPpu_ie : (applyPpu r s).ie = s.ie := by unfold applyPpu; split <;> rfl
@[simp] theorem applyPpu_timer : (applyPpu r s).timer = s.timer := by unfold applyPpu; split <;> rfl
@[simp] theorem applyPpu_audio : (applyPpu r s).audio = s.audio := by unfold applyPpu; split <;> rfl
@[simp] theorem applyPpu_mem : (applyPpu r s).mem = s.mem := by unfold applyPpu; split <;> rfl
@[simp] theorem applyPpu_params : (applyPpu r s).params = s.params := by unfold applyPpu; split <;> rfl
@[simp] theorem applyPpu_ppu : (applyPpu r s).ppu = r.ppu := by unfold applyPpu; split <;> rfl
@[simp] theorem applyPpu_intFlag :
    (applyPpu r s).intFlag = if r.vblank then s.intFlag ||| 0b00001 else s.intFlag := by
  unfold applyPpu; split <;> rfl

end

/-- The machine at the end of a tick that fails no check, part by part. -/
def State.tickEnd (s : State) : State :=
  applyPpu (s.ppu.tick s.mem) (audioTick (timerTick { s with cycles := s.cycles + 1 }))

/-- A tick of a machine that meets the invariant completes (R101, R572). -/
theorem busTick_end {s : State} (hs : s.Inv) : busTick s = .ok () s.tickEnd := by
  unfold busTick
  rw [ppuTick_ok (by simpa [timerTick] using hs.ppu)]
  simp [State.tickEnd, timerTick]

theorem ticked_eq {s : State} (hs : s.Inv) : s.ticked = s.tickEnd := by
  unfold State.ticked
  rw [busTick_end hs]
  rfl

theorem busTick_ok {s : State} (hs : s.Inv) : busTick s = .ok () s.ticked := by
  rw [ticked_eq hs, busTick_end hs]

theorem ticked_inv {s : State} (hs : s.Inv) : s.ticked.Inv := by
  rw [ticked_eq hs]
  exact ⟨by simpa [State.tickEnd, timerTick] using hs.mem_wf, by simpa [State.tickEnd, timerTick] using hs.mem_stores,
    by simpa [State.tickEnd, timerTick] using (Ppu.tick_ok s.mem hs.ppu).2⟩

/-! What a tick keeps, failed check or not. -/

section
variable (s : State)

theorem ticked_cases : s.ticked = s.tickEnd ∨ ∃ f, s.ticked = { s.tickEnd with fault := some f } := by
  unfold State.ticked busTick ppuTick
  dsimp only
  split
  · left; simp [State.tickEnd, timerTick]
  · next f _ => right; exact ⟨f, by simp [raise, State.tickEnd, timerTick]⟩

@[simp] theorem ticked_regs : s.ticked.regs = s.regs := by
  rcases ticked_cases s with h | ⟨f, h⟩ <;> simp [h, State.tickEnd, timerTick]
@[simp] theorem ticked_ime : s.ticked.ime = s.ime := by
  rcases ticked_cases s with h | ⟨f, h⟩ <;> simp [h, State.tickEnd, timerTick]
@[simp] theorem ticked_eiPending : s.ticked.eiPending = s.eiPending := by
  rcases ticked_cases s with h | ⟨f, h⟩ <;> simp [h, State.tickEnd, timerTick]
@[simp] theorem ticked_halted : s.ticked.halted = s.halted := by
  rcases ticked_cases s with h | ⟨f, h⟩ <;> simp [h, State.tickEnd, timerTick]
@[simp] theorem ticked_haltBug : s.ticked.haltBug = s.haltBug := by
  rcases ticked_cases s with h | ⟨f, h⟩ <;> simp [h, State.tickEnd, timerTick]
@[simp] theorem ticked_cycles : s.ticked.cycles = s.cycles + 1 := by
  rcases ticked_cases s with h | ⟨f, h⟩ <;> simp [h, State.tickEnd, timerTick]
@[simp] theorem ticked_opPC : s.ticked.opPC = s.opPC := by
  rcases ticked_cases s with h | ⟨f, h⟩ <;> simp [h, State.tickEnd, timerTick]
@[simp] theorem ticked_ie : s.ticked.ie = s.ie := by
  rcases ticked_cases s with h | ⟨f, h⟩ <;> simp [h, State.tickEnd, timerTick]
@[simp] theorem ticked_mem : s.ticked.mem = s.mem := by
  rcases ticked_cases s with h | ⟨f, h⟩ <;> simp [h, State.tickEnd, timerTick]
@[simp] theorem ticked_params : s.ticked.params = s.params := by
  rcases ticked_cases s with h | ⟨f, h⟩ <;> simp [h, State.tickEnd, timerTick]
@[simp] theorem ticked_timer : s.ticked.timer = s.timer.tick.1 := by
  rcases ticked_cases s with h | ⟨f, h⟩ <;> simp [h, State.tickEnd, timerTick]
@[simp] theorem ticked_audio : s.ticked.audio = { s.audio with ticks := s.audio.ticks + 1 } := by
  rcases ticked_cases s with h | ⟨f, h⟩ <;> simp [h, State.tickEnd, timerTick, audioTick]
@[simp] theorem ticked_ppu : s.ticked.ppu = (s.ppu.tick s.mem).ppu := by
  rcases ticked_cases s with h | ⟨f, h⟩ <;> simp [h, State.tickEnd, timerTick]

end

/-- A tick of a machine that meets the invariant raises no fault. -/
theorem ticked_fault {s : State} (hs : s.Inv) : s.ticked.fault = s.fault := by
  rw [ticked_eq hs]; simp [State.tickEnd, timerTick]

/-- A tick does not look at the register file (R73, R536). -/
theorem ticked_withRegs {s : State} (hs : s.Inv) (g : Regs) :
    ({ s with regs := g } : State).ticked = { s.ticked with regs := g } := by
  have hg : ({ s with regs := g } : State).Inv := ⟨hs.1, hs.2, hs.3⟩
  rw [ticked_eq hs, ticked_eq hg]
  simp only [State.tickEnd, applyPpu, timerTick, applyTimer, audioTick, requestTimer, requestVBlank]
  split <;> split <;> rfl

theorem ticked_setPC {s : State} (hs : s.Inv) (v : Word) : (s.setPC v).ticked = s.ticked.setPC v := by
  unfold State.setPC
  rw [ticked_withRegs hs]
  simp

theorem ticked_setSP {s : State} (hs : s.Inv) (v : Word) : (s.setSP v).ticked = s.ticked.setSP v := by
  unfold State.setSP
  rw [ticked_withRegs hs]
  simp

/-! ## The bus -/

section
variable (s : State) (a : Word) (v : Byte)

@[simp] theorem noteRead_regs : (s.noteRead a).regs = s.regs := by unfold State.noteRead; split <;> rfl
@[simp] theorem noteRead_ime : (s.noteRead a).ime = s.ime := by unfold State.noteRead; split <;> rfl
@[simp] theorem noteRead_eiPending : (s.noteRead a).eiPending = s.eiPending := by unfold State.noteRead; split <;> rfl
@[simp] theorem noteRead_halted : (s.noteRead a).halted = s.halted := by unfold State.noteRead; split <;> rfl
@[simp] theorem noteRead_haltBug : (s.noteRead a).haltBug = s.haltBug := by unfold State.noteRead; split <;> rfl
@[simp] theorem noteRead_fault : (s.noteRead a).fault = s.fault := by unfold State.noteRead; split <;> rfl
@[simp] theorem noteRead_cycles : (s.noteRead a).cycles = s.cycles := by unfold State.noteRead; split <;> rfl
@[simp] theorem noteRead_opPC : (s.noteRead a).opPC = s.opPC := by unfold State.noteRead; split <;> rfl
@[simp] theorem noteRead_ie : (s.noteRead a).ie = s.ie := by unfold State.noteRead; split <;> rfl
@[simp] theorem noteRead_intFlag : (s.noteRead a).intFlag = s.intFlag := by unfold State.noteRead; split <;> rfl
@[simp] theorem noteRead_timer : (s.noteRead a).timer = s.timer := by unfold State.noteRead; split <;> rfl
@[simp] theorem noteRead_ppu : (s.noteRead a).ppu = s.ppu := by unfold State.noteRead; split <;> rfl
@[simp] theorem noteRead_mem : (s.noteRead a).mem = s.mem := by unfold State.noteRead; split <;> rfl
@[simp] theorem noteRead_params : (s.noteRead a).params = s.params := by unfold State.noteRead; split <;> rfl

/-- A store is not the register bank: reading it shows the audio device nothing (R118). -/
theorem noteRead_of_store (h : isStore a.toNat = true) : s.noteRead a = s := by
  have : regionOf a ≠ .regBank := by
    simp only [isStore, isRom, isRam, Bool.or_eq_true, decide_eq_true_eq] at h
    unfold regionOf
    dsimp only
    intro hc
    split at hc; · cases hc
    split at hc; · cases hc
    split at hc; · cases hc
    split at hc; · cases hc
    split at hc; · cases hc
    split at hc; · cases hc
    split at hc; · cases hc
    split at hc
    · omega
    · split at hc <;> cases hc
  unfold State.noteRead
  split
  · next h1 _ => exact absurd h1 this
  · rfl

/-- A write keeps everything outside the devices, the stores and IE. -/
theorem busStore_keeps :
    (s.busStore a v).regs = s.regs ∧ (s.busStore a v).ime = s.ime ∧ (s.busStore a v).eiPending = s.eiPending ∧
    (s.busStore a v).halted = s.halted ∧ (s.busStore a v).haltBug = s.haltBug ∧ (s.busStore a v).fault = s.fault ∧
    (s.busStore a v).cycles = s.cycles ∧ (s.busStore a v).opPC = s.opPC ∧ (s.busStore a v).params = s.params := by
  unfold State.busStore
  split
  · split <;> simp
  · simp
  · simp
  · simp
  · simp
  · simp
  · split
    · next r _ => cases r <;> simp [writeReg]
    · simp
  · simp
  · simp

@[simp] theorem busStore_regs : (s.busStore a v).regs = s.regs := (busStore_keeps s a v).1
@[simp] theorem busStore_ime : (s.busStore a v).ime = s.ime := (busStore_keeps s a v).2.1
@[simp] theorem busStore_eiPending : (s.busStore a v).eiPending = s.eiPending := (busStore_keeps s a v).2.2.1
@[simp] theorem busStore_halted : (s.busStore a v).halted = s.halted := (busStore_keeps s a v).2.2.2.1
@[simp] theorem busStore_haltBug : (s.busStore a v).haltBug = s.haltBug := (busStore_keeps s a v).2.2.2.2.1
@[simp] theorem busStore_fault : (s.busStore a v).fault = s.fault := (busStore_keeps s a v).2.2.2.2.2.1
@[simp] theorem busStore_cycles : (s.busStore a v).cycles = s.cycles := (busStore_keeps s a v).2.2.2.2.2.2.1
@[simp] theorem busStore_opPC : (s.busStore a v).opPC = s.opPC := (busStore_keeps s a v).2.2.2.2.2.2.2.1
@[simp] theorem busStore_params : (s.busStore a v).params = s.params := (busStore_keeps s a v).2.2.2.2.2.2.2.2

end

/-- Which addresses may be accessed is the launch's affair (R9, R110). -/
theorem accessible_congr {s t : State} (h : t.params = s.params) (a : Word) : t.accessible a = s.accessible a := by
  unfold State.accessible State.regAt
  rw [h]

@[simp] theorem ticked_accessible (s : State) (a : Word) : s.ticked.accessible a = s.accessible a :=
  accessible_congr (ticked_params s) a

/-- The region of an address, as ranges (R114). -/
theorem regionOf_store {a : Word} (h : regionOf a = .rom ∨ regionOf a = .vram ∨ regionOf a = .wram ∨ regionOf a = .oam ∨
    regionOf a = .hram) : isStore a.toNat = true := by
  simp only [isStore, isRom, isRam, Bool.or_eq_true, decide_eq_true_eq]
  unfold regionOf at h
  dsimp only at h
  split at h; · omega
  split at h; · omega
  split at h; · simp at h
  split at h; · omega
  split at h; · simp at h
  split at h; · omega
  split at h; · simp at h
  split at h; · simp at h
  split at h
  · omega
  · simp at h

/-! ## The invariant -/

theorem noteRead_inv {s : State} (hs : s.Inv) (a : Word) : (s.noteRead a).Inv :=
  ⟨by simpa using hs.mem_wf, by simpa using hs.mem_stores, by simpa using hs.ppu⟩

theorem storeByte_inv {s : State} (hs : s.Inv) {a : Word} (v : Byte) (ha : isStore a.toNat = true) :
    (storeByte a v s).Inv :=
  ⟨Memory.wf_write _ v hs.mem_wf, Memory.onlyStores_write v ha hs.mem_stores, hs.ppu⟩

theorem writeReg_inv {s : State} (hs : s.Inv) (r : BusReg) (a : Word) (v : Byte) : (writeReg r a v s).Inv := by
  cases r with
  | lcdc => exact ⟨hs.mem_wf, hs.mem_stores, Ppu.writeLcdc_inv v hs.ppu⟩
  | scy | scx | bgp =>
    have h := hs.ppu
    exact ⟨hs.mem_wf, hs.mem_stores, ⟨h.1, h.2, h.3, h.4, h.5, h.6, h.7, h.8, h.9, h.10, h.11, h.12, h.13⟩⟩
  | div | tac =>
    exact ⟨by simpa [writeReg] using hs.mem_wf, by simpa [writeReg] using hs.mem_stores, by simpa [writeReg] using hs.ppu⟩
  | tima | tma | intFlag | audio | ly => exact ⟨hs.mem_wf, hs.mem_stores, hs.ppu⟩

theorem busStore_inv {s : State} (hs : s.Inv) (a : Word) (v : Byte) : (s.busStore a v).Inv := by
  unfold State.busStore
  split
  · next h =>
    split
    · exact storeByte_inv hs v (regionOf_store (.inl h))
    · exact hs
  · next h => exact storeByte_inv hs v (regionOf_store (by simp [h]))
  · exact hs
  · next h => exact storeByte_inv hs v (regionOf_store (by simp [h]))
  · exact hs
  · next h => exact storeByte_inv hs v (regionOf_store (by simp [h]))
  · split
    · exact writeReg_inv hs _ a v
    · exact hs
  · next h => exact storeByte_inv hs v (regionOf_store (by simp [h]))
  · exact ⟨hs.mem_wf, hs.mem_stores, hs.ppu⟩

theorem withRegs_inv {s : State} (hs : s.Inv) (g : Regs) : ({ s with regs := g } : State).Inv := ⟨hs.1, hs.2, hs.3⟩
theorem setPC_inv {s : State} (hs : s.Inv) (v : Word) : (s.setPC v).Inv := withRegs_inv hs _
theorem setSP_inv {s : State} (hs : s.Inv) (v : Word) : (s.setSP v).Inv := withRegs_inv hs _
theorem setR8_inv {s : State} (hs : s.Inv) (r : R8) (v : Byte) : (s.setR8 r v).Inv := withRegs_inv hs _
theorem setR16_inv {s : State} (hs : s.Inv) (rr : R16) (v : Word) : (s.setR16 rr v).Inv := withRegs_inv hs _
theorem setStk_inv {s : State} (hs : s.Inv) (rr : R16Stk) (v : Word) : (s.setStk rr v).Inv := withRegs_inv hs _
theorem setFlags_inv {s : State} (hs : s.Inv) (f : Flags) : (s.setFlags f).Inv := withRegs_inv hs _
theorem setAF_inv {s : State} (hs : s.Inv) (r : Byte × Flags) : (s.setAF r).Inv := withRegs_inv (withRegs_inv hs _) _

theorem afterRead_inv {s : State} (hs : s.Inv) (a : Word) : (s.afterRead a).Inv := noteRead_inv (ticked_inv hs) a
theorem afterWrite_inv {s : State} (hs : s.Inv) (a : Word) (v : Byte) : (s.afterWrite a v).Inv :=
  busStore_inv (ticked_inv hs) a v

/-! ## Bus cycles that complete -/

theorem tick_ok {s : State} (hs : s.Inv) : tick s = .ok () s.ticked := busTick_ok hs

theorem memRead_ok {s : State} (hs : s.Inv) {a : Word} (ha : s.accessible a = true) :
    memRead a s = .ok (s.readValue a) (s.afterRead a) := by
  unfold memRead
  rw [busTick_ok hs]
  simp [decodeRead, ha, State.readValue, State.afterRead]

theorem memWrite_ok {s : State} (hs : s.Inv) {a : Word} (ha : s.accessible a = true) (v : Byte) :
    memWrite a v s = .ok () (s.afterWrite a v) := by
  unfold memWrite
  rw [busTick_ok hs]
  simp [decodeWrite, ha, State.afterWrite]

/-- A read of an unassigned register: the tick has happened, nothing else (R110, R503). -/
theorem memRead_stop {s : State} (hs : s.Inv) {a : Word} (ha : s.accessible a = false) :
    memRead a s = .stop { s.ticked with fault := some (.decodeFault a .read s.opPC) } := by
  unfold memRead
  rw [busTick_ok hs]
  simp [decodeRead, ha, raise]

theorem memWrite_stop {s : State} (hs : s.Inv) {a : Word} (ha : s.accessible a = false) (v : Byte) :
    memWrite a v s = .stop { s.ticked with fault := some (.decodeFault a .write s.opPC) } := by
  unfold memWrite
  rw [busTick_ok hs]
  simp [decodeWrite, ha, raise]

section
variable (s : State) (a : Word) (v : Byte)

@[simp] theorem afterRead_regs : (s.afterRead a).regs = s.regs := by simp [State.afterRead]
@[simp] theorem afterRead_params : (s.afterRead a).params = s.params := by simp [State.afterRead]
@[simp] theorem afterRead_cycles : (s.afterRead a).cycles = s.cycles + 1 := by simp [State.afterRead]
@[simp] theorem afterRead_mem : (s.afterRead a).mem = s.mem := by simp [State.afterRead]
@[simp] theorem afterRead_accessible (b : Word) : (s.afterRead a).accessible b = s.accessible b :=
  accessible_congr (by simp) b
@[simp] theorem afterWrite_regs : (s.afterWrite a v).regs = s.regs := by simp [State.afterWrite]
@[simp] theorem afterWrite_params : (s.afterWrite a v).params = s.params := by simp [State.afterWrite]
@[simp] theorem afterWrite_cycles : (s.afterWrite a v).cycles = s.cycles + 1 := by simp [State.afterWrite]
@[simp] theorem afterWrite_accessible (b : Word) : (s.afterWrite a v).accessible b = s.accessible b :=
  accessible_congr (by simp) b
@[simp] theorem setSP_accessible (w b : Word) : (s.setSP w).accessible b = s.accessible b := rfl
@[simp] theorem setPC_accessible (w b : Word) : (s.setPC w).accessible b = s.accessible b := rfl

/-- The accessors read the register file alone. -/
theorem accessors_of_regs {s t : State} (h : t.regs = s.regs) :
    t.pc = s.pc ∧ t.sp = s.sp ∧ t.flags = s.flags ∧ (∀ r, t.r8 r = s.r8 r) ∧ (∀ rr, t.r16 rr = s.r16 rr) := by
  simp [State.pc, State.sp, State.flags, State.r8, State.r16, h]

@[simp] theorem ticked_pc : s.ticked.pc = s.pc := (accessors_of_regs (ticked_regs s)).1
@[simp] theorem ticked_sp : s.ticked.sp = s.sp := (accessors_of_regs (ticked_regs s)).2.1
@[simp] theorem ticked_flags : s.ticked.flags = s.flags := (accessors_of_regs (ticked_regs s)).2.2.1
@[simp] theorem ticked_r8 (r : R8) : s.ticked.r8 r = s.r8 r := (accessors_of_regs (ticked_regs s)).2.2.2.1 r
@[simp] theorem ticked_r16 (rr : R16) : s.ticked.r16 rr = s.r16 rr := (accessors_of_regs (ticked_regs s)).2.2.2.2 rr
@[simp] theorem afterRead_pc : (s.afterRead a).pc = s.pc := (accessors_of_regs (afterRead_regs s a)).1
@[simp] theorem afterRead_sp : (s.afterRead a).sp = s.sp := (accessors_of_regs (afterRead_regs s a)).2.1
@[simp] theorem afterRead_flags : (s.afterRead a).flags = s.flags := (accessors_of_regs (afterRead_regs s a)).2.2.1
@[simp] theorem afterRead_r8 (r : R8) : (s.afterRead a).r8 r = s.r8 r := (accessors_of_regs (afterRead_regs s a)).2.2.2.1 r
@[simp] theorem afterRead_r16 (rr : R16) : (s.afterRead a).r16 rr = s.r16 rr :=
  (accessors_of_regs (afterRead_regs s a)).2.2.2.2 rr
@[simp] theorem afterWrite_pc : (s.afterWrite a v).pc = s.pc := (accessors_of_regs (afterWrite_regs s a v)).1
@[simp] theorem afterWrite_sp : (s.afterWrite a v).sp = s.sp := (accessors_of_regs (afterWrite_regs s a v)).2.1
@[simp] theorem afterWrite_flags : (s.afterWrite a v).flags = s.flags := (accessors_of_regs (afterWrite_regs s a v)).2.2.1

end

/-! ## Fetching and the stack -/

theorem fetch8_ok {s : State} (hs : s.Inv) (ha : s.accessible s.pc = true) :
    fetch8 s = .ok (s.readValue s.pc) ((s.afterRead s.pc).setPC (s.pc + 1)) := by
  unfold fetch8
  rw [memRead_ok hs ha]
  simp

theorem pushByte_ok {s : State} (hs : s.Inv) (v : Byte) (ha : s.accessible (s.sp - 1) = true) :
    pushByte v s = .ok () ((s.setSP (s.sp - 1)).afterWrite (s.sp - 1) v) := by
  unfold pushByte
  rw [memWrite_ok (setSP_inv hs _) (by simpa using ha)]

theorem popByte_ok {s : State} (hs : s.Inv) (ha : s.accessible s.sp = true) :
    popByte s = .ok (s.readValue s.sp) ((s.afterRead s.sp).setSP (s.sp + 1)) := by
  unfold popByte
  rw [memRead_ok hs ha]
  simp

theorem sub_one_sub_one (w : Word) : w - 1#16 - 1#16 = w - 2#16 := by bv_omega
theorem add_one_add_one (w : Word) : w + 1#16 + 1#16 = w + 2#16 := by bv_omega

/-- A push whose two addresses may be accessed completes (R260). -/
theorem pushWord_ok {s : State} (hs : s.Inv) (v : Word) (ha : ∀ a ∈ s.pushAddrs, s.accessible a = true) :
    pushWord v s = .ok () (s.afterPush v) := by
  have h1 := ha (s.sp - 1) (by simp [State.pushAddrs])
  have h2 := ha (s.sp - 2) (by simp [State.pushAddrs])
  unfold pushWord
  rw [pushByte_ok hs _ h1]
  simp only [Res.ok_bind]
  rw [pushByte_ok (afterWrite_inv (setSP_inv hs _) _ _) _ (by simpa [sub_one_sub_one] using h2)]
  simp [State.afterPush, sub_one_sub_one]

/-- A pop whose two addresses may be accessed completes (R260). -/
theorem popWord_ok {s : State} (hs : s.Inv) (ha : ∀ a ∈ s.popAddrs, s.accessible a = true) :
    popWord s = .ok s.popValue s.afterPop := by
  have h1 := ha s.sp (by simp [State.popAddrs])
  have h2 := ha (s.sp + 1) (by simp [State.popAddrs])
  unfold popWord
  rw [popByte_ok hs h1]
  simp only [Res.ok_bind]
  rw [popByte_ok (setSP_inv (afterRead_inv hs _) _) (by simpa using h2)]
  simp [State.popValue, State.afterPop, add_one_add_one]

theorem afterPush_inv {s : State} (hs : s.Inv) (v : Word) : (s.afterPush v).Inv :=
  afterWrite_inv (setSP_inv (afterWrite_inv (setSP_inv hs _) _ _) _) _ _

theorem afterPop_inv {s : State} (hs : s.Inv) : s.afterPop.Inv :=
  setSP_inv (afterRead_inv (setSP_inv (afterRead_inv hs _) _) _) _

end Sys2Proof.Machine
end

