-- ==== Sys2Proof/Laws/Devices.lean ====
section
/-! SUPPORT. What the devices and the interrupt requests can do while nothing is stored to the register bank: they tick.
One relation says it, each bus operation meets it, and it composes along an instruction. -/

namespace Sys2Proof.Machine

open Sys2Proof

/-! ## The PPU's registers: a tick writes none of them -/

/-- LCDC, SCY, SCX and BGP are the same. -/
def Ppu.SameRegs (p q : Ppu) : Prop := q.lcdc = p.lcdc ∧ q.scy = p.scy ∧ q.scx = p.scx ∧ q.bgp = p.bgp

theorem Ppu.SameRegs.refl (p : Ppu) : p.SameRegs p := ⟨rfl, rfl, rfl, rfl⟩

theorem Ppu.SameRegs.trans {p q r : Ppu} (h : p.SameRegs q) (k : q.SameRegs r) : p.SameRegs r :=
  ⟨k.1.trans h.1, k.2.1.trans h.2.1, k.2.2.1.trans h.2.2.1, k.2.2.2.trans h.2.2.2⟩

theorem Ppu.pushPixels_sameRegs (pixels : List Shade) (p : Ppu) : p.SameRegs (p.pushPixels pixels).1 := by
  induction pixels generalizing p with
  | nil => exact .refl p
  | cons c rest ih =>
    unfold Ppu.pushPixels
    split
    · exact .refl p
    · exact ih { p with bgFifo := p.bgFifo ++ [c] }

theorem Ppu.fetchPush_sameRegs (p : Ppu) : p.SameRegs p.fetchPush.1 := by
  have h : p.SameRegs p.pushRow.1 := Ppu.pushPixels_sameRegs _ p
  unfold Ppu.fetchPush
  split
  · split <;> next hq => rw [hq] at h; exact h
  · exact .refl p

theorem Ppu.fetchPlanes_sameRegs (m : Memory) (p : Ppu) : p.SameRegs (p.fetchPlanes m) := by
  unfold Ppu.fetchPlanes
  split <;> exact ⟨rfl, rfl, rfl, rfl⟩

theorem Ppu.fetcherStep_sameRegs (m : Memory) (p : Ppu) : p.SameRegs (p.fetcherStep m).1 := by
  unfold Ppu.fetcherStep
  split
  · unfold Ppu.fetchTile
    split <;> exact ⟨rfl, rfl, rfl, rfl⟩
  · exact (p.fetchPlanes_sameRegs m).trans (Ppu.fetchPush_sameRegs _)

theorem Ppu.emitIfReady_sameRegs (p : Ppu) : p.SameRegs p.emitIfReady.1 := by
  unfold Ppu.emitIfReady Ppu.emitPixel
  split
  · split
    · exact .refl p
    · dsimp only
      split
      · exact ⟨rfl, rfl, rfl, rfl⟩
      · split <;> exact ⟨rfl, rfl, rfl, rfl⟩
  · exact .refl p

theorem Ppu.endDraw_sameRegs (p : Ppu) : p.SameRegs p.endDraw := by
  unfold Ppu.endDraw
  split <;> exact ⟨rfl, rfl, rfl, rfl⟩

theorem Ppu.drawDot_sameRegs (m : Memory) (p : Ppu) : p.SameRegs (p.drawDot m).1 := by
  have h := p.fetcherStep_sameRegs m
  unfold Ppu.drawDot
  split
  · exact .refl p
  · split
    · next hq => rw [hq] at h; exact h
    · next q hq =>
      rw [hq] at h
      have k := q.emitIfReady_sameRegs
      split
      · next hr => rw [hr] at k; exact h.trans k
      · next r hr => rw [hr] at k; exact (h.trans k).trans r.endDraw_sameRegs

theorem Ppu.scanEntry_sameRegs (m : Memory) (p : Ppu) : p.SameRegs (p.scanEntry m) := by
  unfold Ppu.scanEntry
  split <;> exact ⟨rfl, rfl, rfl, rfl⟩

theorem Ppu.modeDot_sameRegs (m : Memory) (p : Ppu) : p.SameRegs (p.modeDot m).1 := by
  unfold Ppu.modeDot
  split
  · have h := p.scanEntry_sameRegs m
    unfold Ppu.oamScanDot
    dsimp only
    split <;> exact h
  · exact p.drawDot_sameRegs m
  · exact .refl p
  · exact .refl p

theorem Ppu.advance_sameRegs (p : Ppu) : p.SameRegs p.advance.1 := by
  unfold Ppu.advance Ppu.nextLine
  split
  · dsimp only
    split
    · exact ⟨rfl, rfl, rfl, rfl⟩
    · split
      · exact ⟨rfl, rfl, rfl, rfl⟩
      · split <;> exact ⟨rfl, rfl, rfl, rfl⟩
  · exact ⟨rfl, rfl, rfl, rfl⟩

theorem PpuRun.dot_sameRegs (m : Memory) (r : PpuRun) : r.ppu.SameRegs (r.dot m).ppu := by
  have h := r.ppu.modeDot_sameRegs m
  unfold PpuRun.dot
  split
  · exact .refl _
  · split
    · next hp => rw [hp] at h; exact h
    · next p hp => rw [hp] at h; exact h.trans p.advance_sameRegs

theorem PpuRun.dots_sameRegs (m : Memory) (n : Nat) (r : PpuRun) : r.ppu.SameRegs (PpuRun.dots m n r).ppu := by
  induction n generalizing r with
  | zero => exact .refl _
  | succ n ih => exact (r.dot_sameRegs m).trans (ih _)

theorem Ppu.tick_sameRegs (m : Memory) (p : Ppu) : p.SameRegs (p.tick m).ppu := by
  unfold Ppu.tick
  split
  · exact PpuRun.dots_sameRegs m 4 _
  · exact .refl p

/-! ## The timer over many ticks -/

theorem Timer.run_add (m n : Nat) (t : Timer) : (Timer.run (m + n) t).1 = (Timer.run n (Timer.run m t).1).1 := by
  induction m generalizing t with
  | zero => simp [Timer.run]
  | succ m ih =>
    rw [Nat.add_right_comm]
    exact ih _

/-! ## Only ticks between two states -/

/-- From `s` to `t` the devices have only ticked, once for each cycle that passed: the timer has run, no video register
is written, no IF bit is cleared and only VBlank and Timer may be set, and the audio device has been shown no write. -/
structure OnlyTicks (s t : State) : Prop where
  cycles : s.cycles ≤ t.cycles
  timer  : t.timer = (Timer.run (t.cycles - s.cycles) s.timer).1
  ppu    : s.ppu.SameRegs t.ppu
  kept   : ∀ k < 5, s.intFlag.getLsbD k = true → t.intFlag.getLsbD k = true
  others : ∀ k < 5, k ≠ 0 → k ≠ 2 → t.intFlag.getLsbD k = s.intFlag.getLsbD k
  audio  : t.audio.ticks = s.audio.ticks + (t.cycles - s.cycles)
  writes : ∀ e ∈ t.audio.accesses, e ∈ s.audio.accesses ∨ e.written = none

/-- A change of nothing that the relation speaks of. -/
theorem OnlyTicks.of_eq {s t : State} (hc : t.cycles = s.cycles) (ht : t.timer = s.timer) (hp : t.ppu = s.ppu)
    (hi : t.intFlag = s.intFlag) (ha : t.audio = s.audio) : OnlyTicks s t where
  cycles := Nat.le_of_eq hc.symm
  timer := by simp [hc, ht, Timer.run]
  ppu := by rw [hp]; exact .refl _
  kept k _ h := by rw [hi]; exact h
  others k _ _ _ := by rw [hi]
  audio := by simp [hc, ha]
  writes e h := .inl (ha ▸ h)

theorem OnlyTicks.refl (s : State) : OnlyTicks s s := .of_eq rfl rfl rfl rfl rfl

theorem OnlyTicks.trans {s t u : State} (h : OnlyTicks s t) (k : OnlyTicks t u) : OnlyTicks s u := by
  have e : u.cycles - s.cycles = (t.cycles - s.cycles) + (u.cycles - t.cycles) := by
    have := h.cycles
    have := k.cycles
    omega
  refine ⟨h.cycles.trans k.cycles, ?_, h.ppu.trans k.ppu, fun i hi b => k.kept i hi (h.kept i hi b),
    fun i hi h0 h2 => (k.others i hi h0 h2).trans (h.others i hi h0 h2), ?_, fun a ha => ?_⟩
  · rw [k.timer, h.timer, e, Timer.run_add]
  · rw [k.audio, h.audio, e, Nat.add_assoc]
  · rcases k.writes a ha with h1 | h1
    · exact h.writes a h1
    · exact .inr h1

/-- The two requests that a tick can make set bits 2 and 0, and nothing else of IF. -/
theorem requests_bits (x : BitVec 5) (timer vblank : Bool) :
    let y := x ||| (if timer then 4 else 0) ||| (if vblank then 1 else 0)
    (∀ k < 5, x.getLsbD k = true → y.getLsbD k = true) ∧
    (∀ k < 5, k ≠ 0 → k ≠ 2 → y.getLsbD k = x.getLsbD k) := by
  have h : ∀ (x : BitVec 5) (timer vblank : Bool),
      let y := x ||| (if timer then 4 else 0) ||| (if vblank then 1 else 0)
      (∀ k < 5, x.getLsbD k = true → y.getLsbD k = true) ∧
      (∀ k < 5, k ≠ 0 → k ≠ 2 → y.getLsbD k = x.getLsbD k) := by decide +kernel
  exact h x timer vblank

theorem ticked_intFlag (s : State) :
    s.ticked.intFlag = s.intFlag ||| (if s.timer.tick.2 then 4 else 0) |||
      (if (s.ppu.tick s.mem).vblank then 1 else 0) := by
  rcases ticked_cases s with h | ⟨f, h⟩ <;> rw [h] <;> simp [State.tickEnd, audioTick, timerTick] <;> split <;> split <;>
    simp

/-- A tick, faulting or not. -/
theorem ticked_onlyTicks (s : State) : OnlyTicks s s.ticked where
  cycles := by simp
  timer := by simp [Timer.run]
  ppu := by rw [ticked_ppu]; exact s.ppu.tick_sameRegs s.mem
  kept := by rw [ticked_intFlag]; exact (requests_bits _ _ _).1
  others := by rw [ticked_intFlag]; exact (requests_bits _ _ _).2
  audio := by simp
  writes e h := .inl (by simpa using h)

theorem raise_onlyTicks {α : Type} (f : Fault) (s : State) : OnlyTicks s (raise f s : Res α).state :=
  .of_eq rfl rfl rfl rfl rfl

/-- The relation along an operation and what follows it. -/
theorem Res.bind_onlyTicks {α β : Type} {s : State} {r : Res α} {k : α → State → Res β} (h : OnlyTicks s r.state)
    (hk : ∀ v t, r = .ok v t → OnlyTicks t (k v t).state) : OnlyTicks s (r.bind k).state := by
  cases r with
  | ok v t => exact h.trans (hk v t rfl)
  | stop t => exact h

theorem tick_onlyTicks (s : State) : OnlyTicks s (tick s).state := ticked_onlyTicks s

/-- A read cycle of any address: the audio device may be shown the read. -/
theorem memRead_onlyTicks (a : Word) (s : State) : OnlyTicks s (memRead a s).state := by
  refine Res.bind_onlyTicks (ticked_onlyTicks s) fun _ t _ => ?_
  unfold decodeRead
  split
  · show OnlyTicks t (t.noteRead a)
    unfold State.noteRead
    split
    · refine ⟨Nat.le_refl _, by simp [audioAccess, Timer.run], .refl _, fun _ _ h => h, fun _ _ _ _ => rfl,
        by simp [audioAccess], fun e he => ?_⟩
      rcases List.mem_cons.1 he with rfl | h
      · exact .inr rfl
      · exact .inl h
    · exact .refl t
  · exact raise_onlyTicks _ t

/-- A write cycle outside the register bank. -/
theorem memWrite_onlyTicks {a : Word} (v : Byte) (s : State) (ha : regionOf a ≠ .regBank) :
    OnlyTicks s (memWrite a v s).state := by
  refine Res.bind_onlyTicks (ticked_onlyTicks s) fun _ t _ => ?_
  unfold decodeWrite
  split
  · show OnlyTicks t (t.busStore a v)
    unfold State.busStore
    split
    · split <;> exact .of_eq rfl rfl rfl rfl rfl
    case h_7 h => exact absurd h ha
    all_goals exact .of_eq rfl rfl rfl rfl rfl
  · exact raise_onlyTicks _ t

theorem popWord_onlyTicks (s : State) : OnlyTicks s (popWord s).state := by
  have h (s : State) : OnlyTicks s (popByte s).state :=
    Res.bind_onlyTicks (memRead_onlyTicks _ s) fun _ _ _ => .of_eq rfl rfl rfl rfl rfl
  exact Res.bind_onlyTicks (h s) fun _ t _ => Res.bind_onlyTicks (h t) fun _ u _ => .refl u

/-- A write cycle, faulting or not, leaves the registers alone. -/
theorem memWrite_regs (a : Word) (v : Byte) (s : State) : (memWrite a v s).state.regs = s.regs := by
  have h (t : State) : (decodeWrite a v t).state.regs = t.regs := by
    unfold decodeWrite
    split
    · exact busStore_regs t a v
    · rfl
  have hb : (busTick s).state.regs = s.regs := ticked_regs s
  unfold memWrite
  cases ht : busTick s with
  | ok _ t =>
    rw [ht] at hb
    exact (h t).trans hb
  | stop t =>
    rw [ht] at hb
    exact hb

/-- A push whose two addresses lie outside the register bank. -/
theorem pushWord_onlyTicks (v : Word) (s : State) (h : ∀ a ∈ s.pushAddrs, regionOf a ≠ .regBank) :
    OnlyTicks s (pushWord v s).state := by
  have byte (v : Byte) (s : State) (h : regionOf (s.sp - 1) ≠ .regBank) : OnlyTicks s (pushByte v s).state :=
    OnlyTicks.trans (t := s.setSP (s.sp - 1)) (.of_eq rfl rfl rfl rfl rfl) (memWrite_onlyTicks _ _ h)
  refine Res.bind_onlyTicks (byte _ s (h _ (by simp [State.pushAddrs]))) fun _ t ht => byte _ t ?_
  have e : (pushByte (hiByte v) s).state.regs = (s.setSP (s.sp - 1)).regs := memWrite_regs _ _ _
  rw [ht] at e
  have hsp : t.sp = s.sp - 1 := congrArg Regs.sp e
  simpa [hsp, sub_one_sub_one] using h (s.sp - 2) (by simp [State.pushAddrs])

end Sys2Proof.Machine
end

