-- ==== Sys2Proof/Laws/Exec.lean ====
section
/-! SUPPORT. Every arm of `exec` by the form of its instruction: a proof over instructions cites `exec_eq_run` once and
goes on by the forms. -/

namespace Sys2Proof

open Sys2Proof.Machine

/-- The shared operation behind the meaning of an instruction of this form. The escape byte is no whole instruction and
has none (R188). -/
def Form.run (f : Form) (s : State) : Res Unit :=
  match f with
  | .ldRegReg dst src => Machine.ldRegReg dst src s
  | .ldRegImm dst n => Machine.ldRegImm dst n s
  | .ldRegAtHl dst => loadReg dst (s.r16 .hl) s
  | .ldAtHlReg src => storeReg src (s.r16 .hl) s
  | .ldAtHlImm n => Machine.ldAtHlImm n s
  | .ldAAtBc => loadReg .a (s.r16 .bc) s
  | .ldAAtDe => loadReg .a (s.r16 .de) s
  | .ldAtBcA => storeReg .a (s.r16 .bc) s
  | .ldAtDeA => storeReg .a (s.r16 .de) s
  | .ldAAtHlInc => loadAMoveHl 1 s
  | .ldAAtHlDec => loadAMoveHl (-1) s
  | .ldAtHlIncA => storeAMoveHl 1 s
  | .ldAtHlDecA => storeAMoveHl (-1) s
  | .ldAAtNn nn => loadReg .a nn s
  | .ldAtNnA nn => storeReg .a nn s
  | .ldhAAtN n => loadReg .a (highPage n) s
  | .ldhAtNA n => storeReg .a (highPage n) s
  | .ldAAtC => loadReg .a (highPage (s.r8 .c)) s
  | .ldAtCA => storeReg .a (highPage (s.r8 .c)) s
  | .ldPairImm rr nn => Machine.ldPairImm rr nn s
  | .ldAtNnSp nn => Machine.ldAtNnSp nn s
  | .ldSpHl => Machine.ldSpHl s
  | .push rr => Machine.push rr s
  | .pop rr => Machine.pop rr s
  | .ldHlSpE e => Machine.ldHlSpE e s
  | .aluReg op src => Machine.aluReg op src s
  | .aluAtHl op => Machine.aluAtHl op s
  | .aluImm op n => Machine.aluImm op n s
  | .incReg r => modifyReg inc8 r s
  | .incAtHl => modifyAtHl inc8 s
  | .decReg r => modifyReg dec8 r s
  | .decAtHl => modifyAtHl dec8 s
  | .daa => Machine.daa s
  | .cpl => Machine.cpl s
  | .scf => Machine.scf s
  | .ccf => Machine.ccf s
  | .addHl rr => Machine.addHl rr s
  | .incPair rr => Machine.incPair rr s
  | .decPair rr => Machine.decPair rr s
  | .addSpE e => Machine.addSpE e s
  | .rlca => rotA .rlc s
  | .rrca => rotA .rrc s
  | .rla => rotA .rl s
  | .rra => rotA .rr s
  | .rotReg op r => Machine.rotReg op r s
  | .rotAtHl op => Machine.rotAtHl op s
  | .bitReg b r => Machine.bitReg b r s
  | .bitAtHl b => Machine.bitAtHl b s
  | .resReg b r => Machine.resReg b r s
  | .resAtHl b => Machine.resAtHl b s
  | .setReg b r => Machine.setReg b r s
  | .setAtHl b => Machine.setAtHl b s
  | .jp nn => Machine.jp nn s
  | .jpCond cc nn => Machine.jpCond cc nn s
  | .jpHl => Machine.jpHl s
  | .jr e => Machine.jr e s
  | .jrCond cc e => Machine.jrCond cc e s
  | .call nn => Machine.call nn s
  | .callCond cc nn => Machine.callCond cc nn s
  | .ret => Machine.ret s
  | .retCond cc => Machine.retCond cc s
  | .reti => Machine.reti s
  | .rst y => Machine.rst y s
  | .nop => Machine.nop s
  | .halt => Machine.halt s
  | .stop => Machine.stop s
  | .di => Machine.di s
  | .ei => Machine.ei s
  | .illegal op => Machine.illegal op s
  | .prefixCb => .ok () s

/-- What `exec` does is decided by the form. -/
theorem exec_eq_run {i : Instr} (hi : i.WellFormed) (s : State) : exec i s = (i.form.run s).finish := by
  cases i
  case prefixCB => exact absurd hi (by decide)
  all_goals rfl

/-- The secondary handlers are the arms of the secondary instructions (R188). -/
theorem runSecondary_eq_exec (op2 : Byte) (s : State) : runSecondary op2 s = exec (secondary op2) s := by
  have h : ∀ i j : Fin 16, ((secondaryHandlers.get i).get j) s = exec ((secondaryTable.get i).get j) s := by
    intro i j
    fin_cases i <;> fin_cases j <;> rfl
  exact h _ _

theorem secondary_isWhole (op2 : Byte) : (secondary op2).WellFormed := by
  have h : ∀ i j : Fin 16, ((secondaryTable.get i).get j).WellFormed := by decide
  exact h _ _

/-- Every arm answers a next state: a fault, if any, is in its field `fault` (R500, log entry 3). -/
theorem exec_next (i : Instr) (s : State) : ∃ t, exec i s = .next t := by
  by_cases hi : i = .prefixCB
  · subst hi
    show ∃ t, execPrefixCB s = .next t
    unfold execPrefixCB
    split
    · next op2 t _ => exact ⟨_, by rw [runSecondary_eq_exec, exec_eq_run (secondary_isWhole op2)]; rfl⟩
    · exact ⟨_, rfl⟩
  · exact ⟨_, exec_eq_run (decide_eq_true hi) s⟩

/-- So does every step of a machine that has not faulted. -/
theorem step_next {s : State} (h : s.fault = none) : ∃ t, step s = .next t := by
  unfold step
  rw [h]
  dsimp only
  split
  · exact ⟨_, rfl⟩
  · split
    · exact ⟨_, rfl⟩
    · unfold executeInstruction
      split
      · next i t _ =>
        obtain ⟨u, hu⟩ := exec_next i t
        exact ⟨_, by rw [hu]; rfl⟩
      · exact ⟨_, rfl⟩

end Sys2Proof
end

