-- ==== Sys2Proof/Tests/Slice0.lean ====
section
/-! SUPPORT. The model's own tests: the WellFormed smoke, one word per family written out from the spec's encoding, single
steps with the results of 95_test_vectors and of the rules' examples, and for every statement with hypotheses a state and
operands that meet them. -/

namespace Sys2Proof.Tests

open Sys2Proof Sys2Proof.Machine

/-! ## WellFormed (R188) -/

/-- The escape byte alone is no whole instruction. -/
theorem test_wellFormed_refuses_escape : ¬ Instr.WellFormed .prefixCB := by decide

theorem test_wellFormed_accepts_secondary : Instr.WellFormed .rlc_B := by decide

/-! ## Decoding: one word or more for each family, field by field (R141 to R153) -/

theorem test_decode_load8 : decode [0b01_111_110#8] = .ok (.ld_A_atHL, []) := rfl
theorem test_decode_load8_page : decode [0b11110000#8, 0x44] = .ok (.ldh_A_atN 0x44, []) := rfl
theorem test_decode_load16 : decode [0b00_11_0001#8, 0xFE, 0xFF] = .ok (.ld_SP_nn 0xFFFE, []) := rfl
theorem test_decode_alu8 : decode [0b10_001_110#8] = .ok (.adc_A_atHL, []) := rfl
theorem test_decode_alu16 : decode [0b00_10_1011#8] = .ok (.dec_HL, []) := rfl
theorem test_decode_rotate : decode [0xCB#8, 0b00_110_111] = .ok (.swap_A, []) := rfl
theorem test_decode_bit : decode [0xCB#8, 0b10_111_110] = .ok (.res_7_atHL, []) := rfl
theorem test_decode_control : decode [0b110_01_100#8, 0x00, 0x20] = .ok (.call_Z_nn 0x2000, []) := rfl
theorem test_decode_system : decode [0b11111011#8] = .ok (.ei, []) := rfl
theorem test_decode_illegal : decode [0xDD#8] = .ok (.illegal_DD, []) := rfl
theorem test_decode_rejects_missing_bytes : decode [0xC3#8, 0x00] = .error (.missingOperand 0xC3) := rfl
theorem test_decode_rejects_nothing : decode [] = .error .noBytes := rfl

/-- R160: a secondary row's 16 bits have the escape byte on top; a primary row's first byte is its low byte. -/
theorem test_tableWord_secondary : decodeTableWord 16 0xCB7C = some .bit_7_H := rfl
theorem test_tableWord_primary : decodeTableWord 24 0x0150C3 = some (.jp_nn 0x0150) := rfl

/-! ## A small machine -/

/-- Power-on with bytes at 0xC000, PC there and the stack in WRAM. -/
def machine (bytes : List Byte) : State := (placeBytes bytes (State.reset.setPC 0xC000)).setSP 0xC100

/-- The state after one step. -/
def after (s : State) : State :=
  match step s with
  | .next t => t
  | _ => s

/-- The instruction that a step fetches and the fault it stands at then, if the fetch does not stop. -/
def fetched (s : State) : Option (Instr × Option Fault) :=
  match fetchInstr (wake (beginStep s)) with
  | .ok i t => some (i, t.fault)
  | .stop _ => none

theorem fetched_some {s : State} {i : Instr} {f : Option Fault} (h : fetched s = some (i, f)) :
    ∃ t, fetchInstr (wake (beginStep s)) = .ok i t ∧ t.fault = f := by
  unfold fetched at h
  split at h
  · next j t he => cases h; exact ⟨t, he, rfl⟩
  · cases h

theorem fetched_none {s : State} (h : fetched s = none) : ∃ t, fetchInstr (wake (beginStep s)) = .stop t := by
  unfold fetched at h
  split at h
  · cases h
  · next t he => exact ⟨t, he⟩

theorem step_after {s : State} (h : s.fault = none) : step s = .next (after s) := by
  obtain ⟨t, ht⟩ := step_next h
  simp [after, ht]

/-- The state after an instruction. -/
def ran (i : Instr) (s : State) : State :=
  match exec i s with
  | .next t => t
  | _ => s

theorem exec_ran (i : Instr) (s : State) : exec i s = .next (ran i s) := by
  obtain ⟨t, ht⟩ := exec_next i s
  simp [ran, ht]

theorem reset_inv : State.reset.Inv := ⟨by decide, by decide, PpuInv.powerOn⟩

/-- The machine with bytes placed meets the invariant when its memory does. -/
theorem machine_inv (bytes : List Byte) (h1 : (machine bytes).mem.wf = true) (h2 : (machine bytes).mem.onlyStores = true) :
    (machine bytes).Inv := ⟨h1, h2, PpuInv.powerOn⟩

theorem all_mem {l : List Word} {P : Word → Prop} [DecidablePred P] (h : l.all (fun a => decide (P a)) = true) :
    ∀ a ∈ l, P a := by simpa using h

theorem reset_push : ∀ a ∈ State.reset.pushAddrs, State.reset.accessible a = true := all_mem (by decide +kernel)

theorem reset_pop : ∀ a ∈ State.reset.popAddrs, State.reset.accessible a = true := all_mem (by decide +kernel)

theorem nop_inv : (machine [0x00]).Inv := machine_inv _ (by decide) (by decide)

/-! ## Single steps (95_test_vectors, and the examples of the rules) -/

/-- R300, E1: INC B with B=0x00. -/
theorem test_step_inc_B :
    (after (machine [0x04])).r8 .b = 0x01 ∧ (after (machine [0x04])).flags = ⟨false, false, false, true⟩ ∧
    (after (machine [0x04])).pc = 0xC001 ∧ (after (machine [0x04])).cycles = 1 := by decide +kernel

/-- R221: LD A,0x5A. -/
theorem test_step_ld_A_n : (after (machine [0x3E, 0x5A])).r8 .a = 0x5A ∧ (after (machine [0x3E, 0x5A])).pc = 0xC002 := by
  decide +kernel

/-- R264: PUSH BC stores the high byte at SP-1 and the low byte at SP-2. -/
theorem test_step_push_BC :
    let t := after ((machine [0xC5]).setR16 .bc 0x1234)
    t.sp = 0xC0FE ∧ t.mem.read 0xC0FF = 0x12 ∧ t.mem.read 0xC0FE = 0x34 ∧ t.cycles = 4 := by decide +kernel

/-- R266, E5: POP AF drops the low nibble. -/
theorem test_step_pop_AF :
    let t := after ({ machine [0xF1] with mem := [(0xC000, 0xF1), (0xC100, 0xFF), (0xC101, 0x12)] })
    t.r8 .a = 0x12 ∧ t.flags.toByte = 0xF0 ∧ t.sp = 0xC102 := by decide +kernel

/-- R295: SBC A,H with A=0x3B, H=0x2A, C=1. -/
theorem test_step_sbc :
    let t := after (((machine [0x9C]).setR8 .a 0x3B).setR8 .h 0x2A)
    t.r8 .a = 0x10 ∧ t.flags = ⟨false, true, false, false⟩ := by decide +kernel

/-- R304: DAA after 0x45 + 0x38. -/
theorem test_daa : daaResult 0x7D ⟨false, false, false, false⟩ = (0x83, ⟨false, false, false, false⟩) := by decide

/-- R340: ADD HL,BC carries out of bit 11 and keeps Z. -/
theorem test_addHl : addHlResult 0x0FFF 0x0001 ⟨true, false, false, false⟩ = (0x1000, ⟨true, false, true, false⟩) := by
  decide

/-- R343: ADD SP,-1 with SP=0x0001: zero, but Z stays clear, H and C set. -/
theorem test_addSp : addSpResult 0x0001 0xFF = (0x0000, ⟨false, false, true, true⟩) := by decide

/-- R362, R367: RLA clears Z where RL A sets it. -/
theorem test_rla_and_rl :
    rotAResult .rl 0x80 ⟨true, true, true, false⟩ = (0x00, ⟨false, false, false, true⟩) ∧
    rotResult .rl 0x80 ⟨true, true, true, false⟩ = (0x00, ⟨true, false, false, true⟩) := by decide

/-- R368: RR (HL) at 0xC080, four cycles. -/
theorem test_step_rr_atHL :
    let t := after { (machine [0xCB, 0x1E]).setR16 .hl 0xC080 with
      mem := [(0xC000, 0xCB), (0xC001, 0x1E), (0xC080, 0x8B)] }
    t.mem.read 0xC080 = 0xC5 ∧ t.flags = ⟨false, false, false, true⟩ ∧ t.cycles = 4 := by decide +kernel

/-- R390: BIT 7,H. -/
theorem test_bit : bitFlags 7 0x80 ⟨false, false, false, true⟩ = ⟨false, false, true, true⟩ := by decide

/-- R415, E2: JR NZ taken and not taken. -/
theorem test_step_jr_NZ :
    let taken := after ((machine [0x20, 0x05]).setFlags ⟨false, false, false, false⟩)
    let skipped := after ((machine [0x20, 0x05]).setFlags ⟨true, false, false, false⟩)
    taken.pc = 0xC007 ∧ taken.cycles = 3 ∧ skipped.pc = 0xC002 ∧ skipped.cycles = 2 := by decide +kernel

/-- R416: CALL 0x2000. -/
theorem test_step_call :
    let t := after (machine [0xCD, 0x00, 0x20])
    t.pc = 0x2000 ∧ t.sp = 0xC0FE ∧ t.mem.read 0xC0FF = 0xC0 ∧ t.mem.read 0xC0FE = 0x03 ∧ t.cycles = 6 := by
  decide +kernel

/-- R453, R456, R503: STOP and an unassigned opcode fault after their fetch. -/
theorem test_step_faults :
    (after (machine [0x10])).fault = some (.unmodelledInstruction 0x10 0xC000) ∧
    (after (machine [0xD3])).fault = some (.undefinedOpcode 0xD3 0xC000) ∧
    (after (machine [0xD3])).pc = 0xC001 ∧ (after (machine [0xD3])).cycles = 1 := by decide +kernel

/-- R110: LDH A,(0x00) faults in its third cycle. -/
theorem test_step_decode_fault :
    (after (machine [0xF0, 0x00])).fault = some (.decodeFault 0xFF00 .read 0xC000) ∧
    (after (machine [0xF0, 0x00])).cycles = 3 := by decide +kernel

/-- R452, R186: the halt bug, and the fetch that does not advance PC. -/
theorem test_step_halt_bug :
    let t := after { machine [0x76, 0x3C] with ie := 0x01 }
    t.haltBug = true ∧ t.halted = false ∧ t.pc = 0xC001 ∧ (after t).pc = 0xC001 ∧ (after t).r8 .a = 0x02 := by
  decide +kernel

/-- R510: the VBlank dispatch from IME=1, IE=0x01 and the power-on IF. -/
theorem test_step_interrupt :
    let t := after { machine [0x00] with ie := 0x01, ime := true }
    t.pc = 0x0040 ∧ t.sp = 0xC0FE ∧ t.intFlag = 0 ∧ t.ime = false ∧ t.cycles = 5 := by decide +kernel

/-- R537: the fourth tick of the timer example overflows. -/
theorem test_timer_example :
    Timer.run 4 { sysclk := 0x0000, tima := 0xFF, tma := 0x10, tac := 0b101 } =
      ({ sysclk := 0x0010, tima := 0x10, tma := 0x10, tac := 0b101 }, true) := by decide

/-- R566, R567: the bit planes of a pixel. -/
theorem test_pixel : ({ Fetch.start with lo := 0x80, hi := 0x01 } : Fetch).pixel 0 = 1 ∧
    ({ Fetch.start with lo := 0x80, hi := 0x01 } : Fetch).pixel 7 = 2 := by decide

/-! ## The address map at the edges of its rows (R103 to R114) -/

theorem test_regions_at_edges :
    [0x0000#16, 0x7FFF, 0x8000, 0x9FFF, 0xA000, 0xBFFF, 0xC000, 0xDFFF, 0xE000, 0xFDFF, 0xFE00, 0xFE9F, 0xFEA0, 0xFEFF,
     0xFF00, 0xFF7F, 0xFF80, 0xFFFE, 0xFFFF].map regionOf =
    [.rom, .rom, .vram, .vram, .openBus, .openBus, .wram, .wram, .prohibited, .prohibited, .oam, .oam, .prohibited,
     .prohibited, .regBank, .regBank, .hram, .hram, .ie] := by decide

/-- The listed faulting addresses at their edges, and their neighbours that are assigned. -/
theorem test_unassigned_at_edges :
    ([0xFF00#16, 0xFF03, 0xFF08, 0xFF0E, 0xFF27, 0xFF2F, 0xFF41, 0xFF45, 0xFF46, 0xFF48, 0xFF7F].all fun a =>
      !State.reset.accessible a) = true ∧
    ([0xFEFF#16, 0xFF04, 0xFF07, 0xFF0F, 0xFF10, 0xFF26, 0xFF30, 0xFF3F, 0xFF40, 0xFF42, 0xFF44, 0xFF47, 0xFF80].all
      State.reset.accessible) = true := by decide

/-! ## Witnesses: the hypotheses of each statement can be met -/

theorem witness_EncodedInstructionDecodesToItself : Instr.WellFormed (.jp_nn 0xFFFF) := by decide

theorem witness_DecodedBytesAreTheEncoding : decode [0xCB#8] = .ok (.prefixCB, []) := rfl

theorem nop_executes : (machine [0x00]).Executes := by decide

theorem witness_StepRunsTheFetchedInstruction :
    (machine [0x00]).Executes ∧ (∃ i t, fetchInstr (wake (beginStep (machine [0x00]))) = .ok i t) ∧
    (State.reset.setPC 0xFF00).Executes ∧
    (∃ t, fetchInstr (wake (beginStep (State.reset.setPC 0xFF00))) = .stop t) := by
  obtain ⟨t, ht, _⟩ := fetched_some (s := machine [0x00]) (i := .nop) (f := none) (by decide +kernel)
  exact ⟨nop_executes, ⟨.nop, t, ht⟩, by decide, fetched_none (by decide +kernel)⟩

/-- The last three bytes of WRAM hold the instruction. -/
theorem witness_StepRunsTheInstructionInMemory :
    let s := { State.reset.setPC 0xDFFD with mem := [(0xDFFD, 0xC3), (0xDFFE, 0x50), (0xDFFF, 0x01)] }
    s.Inv ∧ s.Executes ∧ s.haltBug = false ∧ decode s.codeBytes = .ok (.jp_nn 0x0150, []) ∧
    (∀ k < (encode (.jp_nn 0x0150)).length, isStore (s.pc + BitVec.ofNat 16 k).toNat = true) := by
  refine ⟨⟨by decide, by decide, PpuInv.powerOn⟩, by decide, rfl, rfl, ?_⟩
  intro k hk
  have : k = 0 ∨ k = 1 ∨ k = 2 := by
    have : (encode (.jp_nn 0x0150)).length = 3 := rfl
    omega
  rcases this with rfl | rfl | rfl <;> decide

theorem witness_OpcodeFetchHonoursHaltBug :
    (machine [0x00]).Inv ∧ (machine [0x00]).accessible (machine [0x00]).pc = true ∧
    { machine [0x00] with haltBug := true }.Inv ∧
    ∃ t, { machine [0x00] with params := { Config.params with haltBug := false } }.haltBug = false ∧
      step { machine [0x00] with params := { Config.params with haltBug := false } } = .next t :=
  ⟨nop_inv, by decide, ⟨nop_inv.1, nop_inv.2, nop_inv.3⟩, ⟨_, rfl, step_after rfl⟩⟩

theorem witness_EscapeEntryRunsSecondary :
    let s := machine [0x46]
    s.Inv ∧ s.fault = none ∧ s.accessible s.pc = true ∧
    AccessesAllowed (secondary (s.readValue s.pc)) ((s.afterRead s.pc).setPC (s.pc + 1)) := by
  exact ⟨machine_inv _ (by decide +kernel) (by decide +kernel), rfl, by decide +kernel, all_mem (by decide +kernel)⟩

theorem witness_HaltedStepIdlesOrWakes :
    ({ machine [0x00] with halted := true }.fault = none ∧ { machine [0x00] with halted := true }.Inv ∧
      { machine [0x00] with halted := true }.pending = false) ∧
    ({ machine [0x00] with halted := true, ie := 0x01 }.pending = true ∧
      { machine [0x00] with halted := true, ie := 0x01 }.ime = false) :=
  ⟨⟨rfl, ⟨nop_inv.1, nop_inv.2, nop_inv.3⟩, by decide⟩, by decide, rfl⟩

theorem witness_FaultEndsTheRun :
    { State.reset with fault := some (.undefinedOpcode 0xD3 0x0150) }.fault = some (.undefinedOpcode 0xD3 0x0150) := rfl

/-- IE with its high bits set pends nothing alone; source 4 alone is chosen. -/
theorem witness_LowestPendingSourceIsChosen :
    { State.reset with ie := 0xF0, intFlag := 0x10 }.pending = true ∧
    { State.reset with ie := 0xF0, intFlag := 0x10 }.chosenSource = 4 ∧
    { State.reset with ie := 0xE0, intFlag := 0x1F }.pending = false := by decide

/-- The lowest of two pending sources under the halt bug, and a stack that meets the register bank at each push. -/
theorem witness_InterruptDispatchStep :
    let s := { machine [0x00] with ie := 0xFF, ime := true, haltBug := true, intFlag := 0b10100 }
    s.Inv ∧ s.fault = none ∧ s.ime = true ∧ s.ie.getLsbD 2 = true ∧ s.intFlag.getLsbD 2 = true ∧
    (∀ j < 2, ¬ (s.ie.getLsbD j = true ∧ s.intFlag.getLsbD j = true)) ∧
    (s.accessible (s.sp - 1) = true ∧ s.accessible (s.sp - 2) = true) ∧
    (s.setSP 0xFF80).accessible ((s.setSP 0xFF80).sp - 1) = false ∧
    ((s.setSP 0xFF81).accessible ((s.setSP 0xFF81).sp - 1) = true ∧
      (s.setSP 0xFF81).accessible ((s.setSP 0xFF81).sp - 2) = false) :=
  ⟨⟨nop_inv.1, nop_inv.2, nop_inv.3⟩, rfl, rfl, by decide, by decide, by decide, by decide +kernel, by decide +kernel,
    by decide +kernel⟩

theorem witness_ImeChangesOnlyAsListed :
    ∃ t, step { machine [0xF3] with ime := true } = .next t ∧ t.ime ≠ { machine [0xF3] with ime := true }.ime :=
  ⟨_, step_after rfl, by decide +kernel⟩

theorem witness_DelayedEnableIsApplied :
    let s := { machine [0x00] with eiPending := true }
    s.Executes ∧ ∃ i t u, fetchInstr (wake (beginStep s)) = .ok i t ∧ exec i t = .next u ∧ u.fault = none := by
  intro s
  obtain ⟨t, ht, hf⟩ := fetched_some (s := s) (i := .nop) (f := none) (by decide +kernel)
  exact ⟨by decide, .nop, t, t, ht, rfl, hf⟩

theorem witness_EnableIsDelayedByOneInstruction :
    let s := machine [0xFB, 0x00]
    s.Executes ∧ s.ime = false ∧ s.eiPending = false ∧
    ∃ a t, fetchInstr (wake (beginStep s)) = .ok .ei a ∧ step s = .next t ∧
      ∃ i b u, fetchInstr (wake (beginStep t)) = .ok i b ∧ step t = .next u ∧ u.fault = none := by
  intro s
  obtain ⟨a, ha, _⟩ := fetched_some (s := s) (i := .ei) (f := none) (by decide +kernel)
  obtain ⟨b, hb, _⟩ := fetched_some (s := after s) (i := .nop) (f := none) (by decide +kernel)
  exact ⟨by decide, rfl, rfl, a, _, ha, step_after rfl, .nop, b, _, hb, step_after (by decide +kernel),
    by decide +kernel⟩

/-- A machine in which nothing faults, an address of each kind, and a video unit whose tick faults. -/
theorem witness_BusCycleTicksThenAccesses :
    State.reset.Inv ∧ (State.reset.ppu.tick State.reset.mem).fault = none ∧ State.reset.accessible 0xFF10 = true ∧
    State.reset.accessible 0xFF0E = false ∧
    ({ Ppu.powerOn with mode := .draw, ly := 144, dot := 80 }.tick []).fault =
      some (.invariantViolation .drawInVblank 144 80 0 0) :=
  ⟨reset_inv, (Ppu.tick_ok _ PpuInv.powerOn).1, by decide, by decide, by decide +kernel⟩

/-- Both ends of every row of the map lie under exactly the clause of their row. -/
theorem witness_AddressMapRows :
    (0x7FFF#16).toNat ≤ 0x7FFF ∧ (0x8000 ≤ (0x8000#16).toNat ∧ (0x9FFF#16).toNat ≤ 0x9FFF) ∧
    (0xA000 ≤ (0xA000#16).toNat ∧ (0xBFFF#16).toNat ≤ 0xBFFF) ∧ (0xC000 ≤ (0xC000#16).toNat ∧ (0xDFFF#16).toNat ≤ 0xDFFF) ∧
    (0xE000 ≤ (0xE000#16).toNat ∧ (0xFDFF#16).toNat ≤ 0xFDFF) ∧ (0xFE00 ≤ (0xFE00#16).toNat ∧ (0xFE9F#16).toNat ≤ 0xFE9F) ∧
    (0xFEA0 ≤ (0xFEA0#16).toNat ∧ (0xFEFF#16).toNat ≤ 0xFEFF) ∧ (0xFF80 ≤ (0xFF80#16).toNat ∧ (0xFFFE#16).toNat ≤ 0xFFFE) ∧
    (0xFFFF#16).toNat = 0xFFFF := by decide

theorem witness_RegisterBankReadsAndWrites :
    State.reset.params.regMap = Config.regMap ∧
    [0xFF10#16, 0xFF26, 0xFF30, 0xFF3F].all (fun a => decide (State.reset.regAt a = some .audio)) = true := by decide

theorem witness_UnassignedRegisterFaults :
    State.reset.Inv ∧ 0xFF00 ≤ (0xFF00#16).toNat ∧ (0xFF7F#16).toNat ≤ 0xFF7F ∧
    (∀ row ∈ State.reset.params.regMap, ¬ (row.lo ≤ (0xFF00#16).toNat ∧ (0xFF00#16).toNat ≤ row.hi)) ∧
    (∀ row ∈ State.reset.params.regMap, ¬ (row.lo ≤ (0xFF7F#16).toNat ∧ (0xFF7F#16).toNat ≤ row.hi)) ∧
    State.reset.params.regMap = Config.regMap :=
  ⟨reset_inv, by decide, by decide, by simp [State.reset, State.powerOn, Config.params, Config.regMap],
    by simp [State.reset, State.powerOn, Config.params, Config.regMap], rfl⟩

theorem witness_ReadReturnsTheLastWrite :
    State.reset.mem.wf = true ∧
    [0x8000, 0x9FFF, 0xC000, 0xDFFF, 0xFE00, 0xFE9F, 0xFF80, 0xFFFE].all isRam = true := by decide

theorem witness_EveryLaunchMeetsInvariant : Config.params.regMap = Config.regMap := rfl

theorem witness_TimerCountsFallingEdges : State.reset.params.regMap = Config.regMap := rfl

theorem witness_TimerCountsOncePerPeriod :
    ({ sysclk := 0xABCC, tima := 0xFF, tma := 0, tac := 0b100 } : Timer).tac.getLsbD 2 = true := by decide

/-- Both ways of LCDC bit 7, and a held display. -/
theorem witness_LcdEnableTransitions :
    Ppu.powerOn.lcdc.getLsbD 7 ≠ (0x11#8).getLsbD 7 ∧ Ppu.powerOn.lcdc.getLsbD 7 = (0x80#8).getLsbD 7 ∧
    { Ppu.powerOn with lcdc := 0x11 }.lcdc.getLsbD 7 = false := by decide

theorem witness_PositionAdvancesOneDotAtATime : PpuInv Ppu.powerOn := PpuInv.powerOn

theorem witness_OamScanKeepsTheFirstTenSprites :
    PpuInv Ppu.powerOn ∧ Ppu.powerOn.mode = .oamScan ∧ Ppu.powerOn.dot = 0 ∧ Ppu.powerOn.spriteBuf = [] :=
  ⟨PpuInv.powerOn, rfl, rfl, rfl⟩

/-- A line about to draw, with SCX mod 8 at 7. -/
def drawing : Ppu := { Ppu.powerOn with mode := .draw, dot := 80, ly := 143, scx := 0xFF, discard := 7 }

theorem drawing_inv : PpuInv drawing := by constructor <;> simp [drawing, Ppu.powerOn, ResetState.ppu, Fetch.start]

theorem witness_DrawLengthIsFixedByScroll :
    PpuInv drawing ∧ drawing.mode = .draw ∧ drawing.dot = 80 ∧ drawing = drawing.drawInit := ⟨drawing_inv, rfl, rfl, rfl⟩

theorem witness_DrawnLineShowsTheBackground :
    PpuInv drawing ∧ drawing.mode = .draw ∧ drawing.dot = 80 ∧ drawing = drawing.drawInit ∧ drawing.ly = 143 :=
  ⟨drawing_inv, rfl, rfl, rfl, rfl⟩

theorem witness_EveryStepKeepsInvariant : State.reset.Inv ∧ State.reset.fault = none ∧ ∃ t, step State.reset = .next t :=
  ⟨reset_inv, rfl, step_next rfl⟩

theorem witness_PowerOnValues : Config.params.regMap = Config.regMap := rfl

theorem witness_StepsKeepRomAndParameters :
    (∃ t, step State.reset = .next t) ∧ State.reset.mem.wf = true ∧ State.reset.params.testMode = false ∧ 0x7FFF ≤ 0x7FFF :=
  ⟨step_next rfl, by decide, rfl, Nat.le_refl _⟩

theorem witness_StepCostsOneToSixCycles : ∃ t, step State.reset = .next t := step_next rfl

/-- A CPU that waits with the display off, the timer stopped and nothing enabled. -/
structure Waits (s : State) : Prop where
  inv : s.Inv
  fault : s.fault = none
  halted : s.halted = true
  ie : s.ie = 0

theorem waits_step {s : State} (h : Waits s) :
    ∃ t, step s = .next t ∧ Waits t ∧ t.cycles = s.cycles + 1 := by
  have hp : s.pending = false := by simp [State.pending, State.pendingBits, h.ie]
  have hb : (beginStep s).Inv := ⟨h.inv.1, h.inv.2, h.inv.3⟩
  refine ⟨(beginStep s).ticked, ?_, ⟨ticked_inv hb, ?_, ?_, ?_⟩, ?_⟩
  · simp [step, h.fault, State.acceptsInterrupt, State.idles, h.halted, hp, tick_ok hb]
  · rw [ticked_fault hb]; simp [h.fault]
  · simp [h.halted]
  · simp [h.ie]
  · simp

theorem waits_frame (fuel total : Nat) (s : State) (h : Waits s) : ∃ n t, runFrameFrom fuel total s = .done n t := by
  induction fuel generalizing total s with
  | zero => exact ⟨_, _, rfl⟩
  | succ fuel ih =>
    obtain ⟨t, hs, ht, _⟩ := waits_step h
    simp only [runFrameFrom]
    split
    · rw [hs]
      simp only [ht.fault]
      exact ih _ _ ht
    · exact ⟨_, _, rfl⟩

theorem witness_FrameMeetsItsBudget : ∃ total t, runFrame { State.reset with halted := true } = .done total t :=
  waits_frame _ _ _ ⟨⟨reset_inv.1, reset_inv.2, reset_inv.3⟩, rfl, rfl, rfl⟩

/-- Every clause of the harness statement: a store, IE, IF and a refused address, at the edges of their ranges. -/
theorem witness_HarnessSetsAndReadsState :
    isStore 0x7FFF = true ∧ isStore 0xFFFE = true ∧ isStore 0xFFFF = false ∧ isStore 0xFF0F = false ∧
    isStore 0xFF04 = false ∧ State.reset.accessible 0xFF04 = true ∧ State.reset.accessible 0xFF08 = false := by decide

theorem witness_RegisterFileFrame : Instr.WellFormed .ld_B_C ∧ ∃ t, exec .ld_B_C State.reset = .next t :=
  ⟨by decide, exec_next _ _⟩

theorem witness_MemoryFrame :
    Instr.WellFormed .push_BC ∧ State.reset.mem.wf = true ∧ (∃ t, exec .push_BC State.reset = .next t) ∧
    0xC000#16 ∉ Instr.push_BC.form.stores State.reset ∧ 0xFFFF#16 ∉ Instr.push_BC.form.stores State.reset :=
  ⟨by decide, by decide, exec_next _ _, by decide +kernel, by decide +kernel⟩

theorem witness_ControlAndDeviceFrame :
    Instr.WellFormed .push_BC ∧ (∃ t, exec .push_BC State.reset = .next t) ∧
    (∀ a ∈ Instr.push_BC.form.stores State.reset, regionOf a ≠ .regBank) := ⟨by decide, exec_next _ _, all_mem (by decide +kernel)⟩

theorem witness_EveryInstructionCompletesInItsCycles :
    Instr.WellFormed .push_BC ∧ Instr.push_BC.form.isFault = false ∧ State.reset.Inv ∧ State.reset.fault = none ∧
    AccessesAllowed .push_BC State.reset := ⟨by decide, rfl, reset_inv, rfl, reset_push⟩

theorem witness_ForbiddenAccessFaults :
    let s := State.reset.setR16 .hl 0xFF00
    Instr.WellFormed .inc_atHL ∧ s.Inv ∧ s.fault = none ∧
    Instr.inc_atHL.form.reads s ++ Instr.inc_atHL.form.stores s = 0xFF00 :: [0xFF00] ∧ s.accessible 0xFF00 = false :=
  ⟨by decide, setR16_inv reset_inv _ _, rfl, by decide, by decide⟩

/-- The pushes at 0xFF80 and 0xFF7F, the pops and the store at 0xFEFF and 0xFF00. -/
theorem witness_SecondAccessFaultKeepsTheFirst :
    let s := State.reset.setSP 0xFF81
    let u := State.reset.setSP 0xFEFF
    s.Inv ∧ u.Inv ∧ s.accessible (s.sp - 1) = true ∧ s.accessible (s.sp - 2) = false ∧
    u.accessible u.sp = true ∧ u.accessible (u.sp + 1) = false ∧
    Instr.push_AF.form = .push .af ∧ (Instr.call_nn 0).form = .call 0 ∧ Instr.rst_38.form = .rst 7 ∧
    Instr.pop_HL.form = .pop .hl ∧ Instr.ret.form = .ret ∧ Instr.reti.form = .reti ∧
    (Instr.call_Z_nn 0).form = .callCond .z 0 ∧ s.flags.holds .z = true ∧
    Instr.ret_C.form = .retCond .c ∧ u.flags.holds .c = true ∧
    (Instr.ld_atNN_SP 0xFEFF).form = .ldAtNnSp 0xFEFF ∧ s.accessible 0xFEFF = true ∧ s.accessible (0xFEFF + 1) = false :=
  ⟨setSP_inv reset_inv _, setSP_inv reset_inv _, by decide +kernel, by decide +kernel, by decide +kernel,
    by decide +kernel, rfl, rfl, rfl, rfl, rfl, rfl, rfl, rfl, rfl, rfl, rfl, by decide +kernel, by decide +kernel⟩

theorem witness_FaultingOpcodesRecordTheirFault :
    Instr.stop.form = .stop ∧ Instr.illegal_D3.form = .illegal 0xD3 ∧ Instr.illegal_FD.form = .illegal 0xFD :=
  ⟨rfl, rfl, rfl⟩

theorem witness_LoadsIntoRegisters :
    State.reset.Inv ∧ Instr.ld_B_C.form = .ldRegReg .b .c ∧ (Instr.ld_A_n 0xFF).form = .ldRegImm .a 0xFF ∧
    Instr.ld_H_atHL.form = .ldRegAtHl .h ∧ State.reset.accessible (State.reset.r16 .hl) = true ∧
    Instr.ld_A_atBC.form = .ldAAtBc ∧ State.reset.accessible (State.reset.r16 .bc) = true ∧
    Instr.ld_A_atDE.form = .ldAAtDe ∧ State.reset.accessible (State.reset.r16 .de) = true ∧
    (Instr.ld_A_atNN 0xFFFF).form = .ldAAtNn 0xFFFF ∧ State.reset.accessible 0xFFFF = true ∧
    (Instr.ldh_A_atN 0xFF).form = .ldhAAtN 0xFF ∧ State.reset.accessible (0xFF00 + (0xFF#8).setWidth 16) = true ∧
    Instr.ld_A_atC.form = .ldAAtC ∧
    (State.reset.setR8 .c 0x80).accessible (0xFF00 + ((State.reset.setR8 .c 0x80).r8 .c).setWidth 16) = true := by
  refine ⟨reset_inv, ?_⟩
  decide

theorem witness_StoresToMemory :
    State.reset.Inv ∧ Instr.ld_atHL_H.form = .ldAtHlReg .h ∧ (Instr.ld_atHL_n 0x99).form = .ldAtHlImm 0x99 ∧
    State.reset.accessible (State.reset.r16 .hl) = true ∧
    Instr.ld_atBC_A.form = .ldAtBcA ∧ State.reset.accessible (State.reset.r16 .bc) = true ∧
    Instr.ld_atDE_A.form = .ldAtDeA ∧ State.reset.accessible (State.reset.r16 .de) = true ∧
    (Instr.ld_atNN_A 0xFF04).form = .ldAtNnA 0xFF04 ∧ State.reset.accessible 0xFF04 = true ∧
    (Instr.ldh_atN_A 0x0F).form = .ldhAtNA 0x0F ∧ State.reset.accessible (0xFF00 + (0x0F#8).setWidth 16) = true ∧
    Instr.ld_atC_A.form = .ldAtCA ∧
    (State.reset.setR8 .c 0x44).accessible (0xFF00 + ((State.reset.setR8 .c 0x44).r8 .c).setWidth 16) = true := by
  refine ⟨reset_inv, ?_⟩
  decide

/-- HL at both ends of the address space. -/
theorem witness_AccumulatorLoadsMoveHl :
    (State.reset.setR16 .hl 0xFFFF).Inv ∧
    (State.reset.setR16 .hl 0xFFFF).accessible ((State.reset.setR16 .hl 0xFFFF).r16 .hl) = true ∧
    Instr.ld_A_atHLinc.form = .ldAAtHlInc ∧ Instr.ld_A_atHLdec.form = .ldAAtHlDec ∧
    Instr.ld_atHLinc_A.form = .ldAtHlIncA ∧ Instr.ld_atHLdec_A.form = .ldAtHlDecA :=
  ⟨setR16_inv reset_inv _ _, by decide, rfl, rfl, rfl, rfl⟩

theorem witness_SixteenBitLoadsAndStack :
    State.reset.Inv ∧ (Instr.ld_SP_nn 0xFFFF).form = .ldPairImm .sp 0xFFFF ∧ Instr.ld_SP_HL.form = .ldSpHl ∧
    (Instr.ld_atNN_SP 0xFFFF).form = .ldAtNnSp 0xFFFF ∧ State.reset.accessible 0xFFFF = true ∧
    State.reset.accessible (0xFFFF + 1) = true ∧
    Instr.push_AF.form = .push .af ∧ (∀ a ∈ State.reset.pushAddrs, State.reset.accessible a = true) ∧
    Instr.pop_AF.form = .pop .af ∧ (∀ a ∈ State.reset.popAddrs, State.reset.accessible a = true) := by
  exact ⟨reset_inv, rfl, rfl, rfl, by decide, by decide, rfl, reset_push, rfl, reset_pop⟩

theorem witness_AccumulatorOperandForms :
    State.reset.Inv ∧ Instr.cp_A_A.form = .aluReg .cp .a ∧ (Instr.adc_A_n 0xFF).form = .aluImm .adc 0xFF ∧
    Instr.sbc_A_atHL.form = .aluAtHl .sbc ∧ State.reset.accessible (State.reset.r16 .hl) = true :=
  ⟨reset_inv, rfl, rfl, rfl, by decide⟩

theorem witness_IncrementAndDecrementResults :
    State.reset.Inv ∧ Instr.inc_A.form = .incReg .a ∧ Instr.dec_L.form = .decReg .l ∧ Instr.inc_atHL.form = .incAtHl ∧
    Instr.dec_atHL.form = .decAtHl ∧ State.reset.accessible (State.reset.r16 .hl) = true :=
  ⟨reset_inv, rfl, rfl, rfl, rfl, by decide⟩

theorem witness_AccumulatorAdjustAndCarryResults :
    Instr.daa.form = .daa ∧ Instr.cpl.form = .cpl ∧ Instr.scf.form = .scf ∧ Instr.ccf.form = .ccf := ⟨rfl, rfl, rfl, rfl⟩

theorem witness_DecimalAdjustIsDecimalArithmetic : 99 < 100 ∧ 0 < 100 := by decide

theorem witness_SixteenBitArithmeticResults :
    State.reset.Inv ∧ Instr.add_HL_SP.form = .addHl .sp ∧ Instr.inc_SP.form = .incPair .sp ∧
    Instr.dec_BC.form = .decPair .bc ∧ (Instr.add_SP_e 0x80).form = .addSpE 0x80 ∧
    (Instr.ld_HL_SPe 0xFF).form = .ldHlSpE 0xFF := ⟨reset_inv, rfl, rfl, rfl, rfl, rfl⟩

theorem witness_RotateForms :
    State.reset.Inv ∧ Instr.rlca.form = .rlca ∧ Instr.rrca.form = .rrca ∧ Instr.rla.form = .rla ∧ Instr.rra.form = .rra ∧
    Instr.swap_A.form = .rotReg .swap .a ∧ Instr.srl_atHL.form = .rotAtHl .srl ∧
    State.reset.accessible (State.reset.r16 .hl) = true := ⟨reset_inv, rfl, rfl, rfl, rfl, rfl, rfl, by decide⟩

theorem witness_BitOperationResults :
    State.reset.Inv ∧ Instr.bit_7_A.form = .bitReg 7 .a ∧ Instr.res_0_B.form = .resReg 0 .b ∧
    Instr.set_3_B.form = .setReg 3 .b ∧ Instr.bit_0_atHL.form = .bitAtHl 0 ∧ Instr.res_7_atHL.form = .resAtHl 7 ∧
    Instr.set_7_atHL.form = .setAtHl 7 ∧ State.reset.accessible (State.reset.r16 .hl) = true :=
  ⟨reset_inv, rfl, rfl, rfl, rfl, rfl, rfl, by decide⟩

theorem witness_JumpResults :
    State.reset.Inv ∧ (Instr.jp_nn 0xFF00).form = .jp 0xFF00 ∧ (Instr.jp_NC_nn 0x2000).form = .jpCond .nc 0x2000 ∧
    Instr.jp_HL.form = .jpHl ∧ (Instr.jr_e 0x80).form = .jr 0x80 ∧ (Instr.jr_Z_e 0x7F).form = .jrCond .z 0x7F :=
  ⟨reset_inv, rfl, rfl, rfl, rfl, rfl⟩

/-- At reset Z and C are set: the Z condition is taken, NZ is not. -/
theorem witness_CallResults :
    State.reset.Inv ∧ (Instr.call_nn 0x2000).form = .call 0x2000 ∧ (∀ a ∈ State.reset.pushAddrs, State.reset.accessible a = true) ∧
    (Instr.call_Z_nn 0x2000).form = .callCond .z 0x2000 ∧ State.reset.flags.holds .z = true ∧
    (Instr.call_NZ_nn 0x2000).form = .callCond .nz 0x2000 ∧ State.reset.flags.holds .nz = false ∧
    Instr.rst_38.form = .rst 7 := by
  exact ⟨reset_inv, rfl, reset_push, rfl, by decide, rfl, by decide, rfl⟩

theorem witness_ReturnResults :
    State.reset.Inv ∧ Instr.ret.form = .ret ∧ Instr.reti.form = .reti ∧
    (∀ a ∈ State.reset.popAddrs, State.reset.accessible a = true) ∧
    Instr.ret_C.form = .retCond .c ∧ State.reset.flags.holds .c = true ∧
    Instr.ret_NC.form = .retCond .nc ∧ State.reset.flags.holds .nc = false := by
  exact ⟨reset_inv, rfl, rfl, reset_pop, rfl, by decide, rfl, by decide⟩

/-- SP at the top of HRAM, as after power-on. -/
theorem witness_StackRoundTrips :
    State.reset.Inv ∧ (∀ a ∈ State.reset.pushAddrs, isRam a.toNat = true) ∧
    (∃ t, exec .push_AF State.reset = .next t ∧ ∃ u, exec .pop_AF t = .next u) ∧
    Instr.push_AF.form = .push .af ∧ Instr.pop_AF.form = .pop .af ∧
    (∃ t, exec (.call_nn 0x2000) State.reset = .next t ∧ ∃ u, exec .ret t = .next u) ∧
    (Instr.call_nn 0x2000).form = .call 0x2000 ∧ Instr.ret.form = .ret := by
  exact ⟨reset_inv, all_mem (by decide +kernel), ⟨_, exec_ran _ _, exec_next _ _⟩, rfl, rfl, ⟨_, exec_ran _ _, exec_next _ _⟩, rfl, rfl⟩

theorem witness_SystemInstructionResults :
    Instr.nop.form = .nop ∧ Instr.halt.form = .halt ∧ Instr.di.form = .di ∧ Instr.ei.form = .ei := ⟨rfl, rfl, rfl, rfl⟩

end Sys2Proof.Tests
end

section
/-! SUPPORT. A launch (R9, R95 to R97, R700): its memory and its machine meet the invariant, and what a read of the
register bank returns under the default `REG_MAP` (R109). -/

namespace Sys2Proof.Machine

open Sys2Proof

/-! ## The memory and the invariant of a launch -/

theorem Memory.wf_launch (rom init : Nat → Byte) : (Memory.launch rom init).wf = true :=
  Memory.wfFrom_image _ 0 _

theorem Memory.onlyStores_launch (rom init : Nat → Byte) : (Memory.launch rom init).onlyStores = true :=
  Memory.onlyStores_image _ 0 _

theorem State.powerOn_inv (rs : ResetState) (params : Params) (rom init : Nat → Byte) :
    (State.powerOn rs params (Memory.launch rom init)).Inv where
  mem_wf := Memory.wf_launch rom init
  mem_stores := Memory.onlyStores_launch rom init
  ppu := PpuInv.launch rs

/-! ## Reading the register bank -/

theorem regionOf_eq_regBank {a : Word} (hlo : 0xFF00 ≤ a.toNat) (hhi : a.toNat ≤ 0xFF7F) : regionOf a = .regBank := by
  unfold regionOf
  dsimp only
  iterate 7 rw [if_neg (by omega)]
  rw [if_pos hhi]

/-- What a map finds is a row of it that holds the address. -/
theorem lookupReg_some {map : List RegRow} {n : Nat} {r : BusReg} (h : lookupReg map n = some r) :
    ∃ row ∈ map, row.lo ≤ n ∧ n ≤ row.hi ∧ row.reg = r := by
  induction map with
  | nil => cases h
  | cons row rest ih =>
    unfold lookupReg at h
    split at h
    · next hin => exact ⟨row, List.mem_cons_self, hin.1, hin.2, Option.some.inj h⟩
    · obtain ⟨row', hmem, hrow⟩ := ih h
      exact ⟨row', List.mem_cons_of_mem row hmem, hrow⟩

theorem defaultMap_rows : ∀ row ∈ Config.regMap, 0xFF00 ≤ row.lo ∧ row.hi ≤ 0xFF7F := by decide

/-- The default map assigns addresses of the register bank only (R109). -/
theorem regionOf_of_defaultMap {a : Word} {r : BusReg} (h : lookupReg Config.regMap a.toNat = some r) :
    regionOf a = .regBank := by
  obtain ⟨row, hmem, hlo, hhi, -⟩ := lookupReg_some h
  obtain ⟨hfirst, hlast⟩ := defaultMap_rows row hmem
  exact regionOf_eq_regBank (hfirst.trans hlo) (hhi.trans hlast)

theorem State.busValue_of_regAt {s : State} {a : Word} {r : BusReg} (ha : regionOf a = .regBank)
    (hr : s.regAt a = some r) : s.busValue a = readReg r a s := by
  simp only [State.busValue, ha, hr]

/-- With the default map, an address that the table of R109 assigns reads as its register. -/
theorem State.busValue_of_defaultMap {s : State} {a : Word} {r : BusReg} (hmap : s.params.regMap = Config.regMap)
    (hr : lookupReg Config.regMap a.toNat = some r) : s.busValue a = readReg r a s := by
  have hreg : s.regAt a = some r := by rw [State.regAt, hmap, hr]
  exact State.busValue_of_regAt (regionOf_of_defaultMap hr) hreg

/-- The unused bits 7 to 5 of IF read as ones (R56, R109). -/
theorem readReg_intFlag (a : Word) (s : State) : readReg .intFlag a s = 0b111#3 ++ s.intFlag := by
  simp only [readReg]
  generalize s.intFlag = f
  revert f
  decide

/-- The unused bits 7 to 3 of TAC read as ones (R60, R109). -/
theorem readReg_tac (a : Word) (s : State) : readReg .tac a s = 0b11111#5 ++ s.timer.tac := by
  simp only [readReg, Timer.readTac]
  generalize s.timer.tac = c
  revert c
  decide

end Sys2Proof.Machine

namespace Sys2Proof.Proofs

open Sys2Proof Sys2Proof.Machine

/-- Settles O29: the invariant holds because `Memory.launch` is an image and the video unit's position is R97's; every
device value is the field of `RESET_STATE` that the bus read of its register returns. -/
theorem everyLaunchMeetsInvariant : Obligations.EveryLaunchMeetsInvariant := by
  unfold Obligations.EveryLaunchMeetsInvariant
  intro rs params rom init s
  refine ⟨State.powerOn_inv rs params rom init, rfl, rfl, rfl, rfl, rfl, rfl, rfl, rfl, fun hmap => ?_⟩
  have bus {a : Word} {r : BusReg} (hr : lookupReg Config.regMap a.toNat = some r) : s.busValue a = readReg r a s :=
    State.busValue_of_defaultMap hmap hr
  exact ⟨(bus (r := .intFlag) rfl).trans (readReg_intFlag _ s), bus (r := .div) rfl, bus (r := .tima) rfl,
    bus (r := .tma) rfl, (bus (r := .tac) rfl).trans (readReg_tac _ s), bus (r := .lcdc) rfl, bus (r := .scy) rfl,
    bus (r := .scx) rfl, bus (r := .bgp) rfl⟩

end Sys2Proof.Proofs
end

section
/-! SUPPORT. What a predicate of the state must survive to hold through an instruction: the ticks, the accesses, the
recorded faults, and the writes to registers and latches that the form's rule names. One walk over the forms
(`Form.run_keeps`) then serves every statement about what instructions keep or leave alone. -/

namespace Sys2Proof.Machine

open Sys2Proof

/-! ## Bus cycles -/

/-- The fault is one of the video unit's checks (R572). -/
def Fault.isCheck (f : Fault) : Bool :=
  match f with
  | .invariantViolation _ _ _ _ _ => true
  | _ => false

/-- `P` survives every part of a bus cycle that writes only addresses in `W`: a tick, the note of a read, a store, and
the record of a fault that is no check of the video unit. -/
structure BusKeeps (W : Word → Prop) (P : State → Prop) : Prop where
  tick  : ∀ s, P s → P s.ticked
  read  : ∀ s a, P s → P (s.noteRead a)
  write : ∀ s a v, W a → P s → P (s.busStore a v)
  fault : ∀ (s : State) f, f.isCheck = false → P s → P { s with fault := some f }

/-- What holds where an operation ends, and survives what follows it, holds where the two end. -/
theorem Res.bind_keeps {α β : Type} {P : State → Prop} {r : Res α} {k : α → State → Res β} (h : P r.state)
    (hk : ∀ v t, r = .ok v t → P t → P (k v t).state) : P (r.bind k).state := by
  cases r with
  | ok v t => exact hk v t rfl h
  | stop t => exact h

theorem Res.bind_eq_ok {α β : Type} {r : Res α} {k : α → State → Res β} {v : β} {t : State} (h : r.bind k = .ok v t) :
    ∃ w u, r = .ok w u ∧ k w u = .ok v t := by
  cases r with
  | ok w u => exact ⟨w, u, rfl, h⟩
  | stop u => cases h

theorem memRead_regs (a : Word) (s : State) : (memRead a s).state.regs = s.regs := by
  refine Res.bind_keeps (P := fun t => t.regs = s.regs) (ticked_regs s) fun _ t _ ht => ?_
  unfold decodeRead
  split
  · exact (noteRead_regs t a).trans ht
  · exact ht

theorem Res.ok_keeps {α : Type} {P : State → Prop} {r : Res α} {v : α} {t : State} (h : P r.state) (hr : r = .ok v t) :
    P t := by
  subst hr
  exact h

theorem regs_of_tick {s t : State} {v : Unit} (h : tick s = .ok v t) : t.regs = s.regs :=
  Res.ok_keeps (P := fun t => t.regs = s.regs) (ticked_regs s) h

theorem regs_of_memRead {a : Word} {s t : State} {v : Byte} (h : memRead a s = .ok v t) : t.regs = s.regs :=
  Res.ok_keeps (P := fun t => t.regs = s.regs) (memRead_regs a s) h

theorem regs_of_memWrite {a : Word} {w : Byte} {s t : State} {v : Unit} (h : memWrite a w s = .ok v t) :
    t.regs = s.regs :=
  Res.ok_keeps (P := fun t => t.regs = s.regs) (memWrite_regs a w s) h

section
variable {W : Word → Prop} {P : State → Prop} {s : State}

theorem BusKeeps.tick_state (hP : BusKeeps W P) (hs : P s) : P (Machine.tick s).state := hP.tick s hs

theorem BusKeeps.memRead (hP : BusKeeps W P) (a : Word) (hs : P s) : P (memRead a s).state := by
  refine Res.bind_keeps (hP.tick s hs) fun _ t _ ht => ?_
  unfold decodeRead
  split
  · exact hP.read t a ht
  · exact hP.fault t _ rfl ht

theorem BusKeeps.memWrite (hP : BusKeeps W P) {a : Word} (v : Byte) (ha : W a) (hs : P s) : P (memWrite a v s).state := by
  refine Res.bind_keeps (hP.tick s hs) fun _ t _ ht => ?_
  unfold decodeWrite
  split
  · exact hP.write t a v ha ht
  · exact hP.fault t _ rfl ht

/-! ## Fetches and the stack -/

theorem BusKeeps.fetch8 (hP : BusKeeps W P) (hpc : ∀ s v, P s → P (s.setPC v)) (hs : P s) : P (fetch8 s).state :=
  Res.bind_keeps (hP.memRead _ hs) fun _ t _ ht => hpc t _ ht

theorem BusKeeps.fetchOpcode (hP : BusKeeps W P) (hpc : ∀ s v, P s → P (s.setPC v))
    (hbug : ∀ s : State, P s → P { s with haltBug := false }) (hs : P s) : P (fetchOpcode s).state := by
  refine Res.bind_keeps (hP.memRead _ hs) fun _ t _ ht => ?_
  show P (afterOpcodeRead t)
  unfold afterOpcodeRead
  split
  · exact hbug t ht
  · exact hpc t _ ht

theorem BusKeeps.fetchInstr (hP : BusKeeps W P) (hpc : ∀ s v, P s → P (s.setPC v))
    (hbug : ∀ s : State, P s → P { s with haltBug := false }) (hs : P s) : P (fetchInstr s).state := by
  refine Res.bind_keeps (hP.fetchOpcode hpc hbug hs) fun op t _ ht => ?_
  split
  · exact ht
  · exact Res.bind_keeps (hP.fetch8 hpc ht) fun _ u _ hu => hu
  · exact Res.bind_keeps (hP.fetch8 hpc ht) fun _ u _ hu => Res.bind_keeps (hP.fetch8 hpc hu) fun _ w _ hw => hw

theorem BusKeeps.pushWord (hP : BusKeeps W P) (hsp : ∀ s v, P s → P (s.setSP v)) (v : Word)
    (hW : ∀ a ∈ s.pushAddrs, W a) (hs : P s) : P (pushWord v s).state := by
  refine Res.bind_keeps (hP.memWrite _ (hW _ (by simp [State.pushAddrs])) (hsp s _ hs)) fun _ t ht hPt => ?_
  have ht : t.sp = s.sp - 1 := congrArg Regs.sp (regs_of_memWrite ht)
  refine hP.memWrite _ ?_ (hsp t _ hPt)
  simpa [ht, sub_one_sub_one] using hW (s.sp - 2) (by simp [State.pushAddrs])

theorem BusKeeps.popWord (hP : BusKeeps W P) (hsp : ∀ s v, P s → P (s.setSP v)) (hs : P s) : P (popWord s).state := by
  have byte {s : State} (hs : P s) : P (popByte s).state :=
    Res.bind_keeps (hP.memRead _ hs) fun _ t _ ht => hsp t _ ht
  exact Res.bind_keeps (byte hs) fun _ t _ ht => Res.bind_keeps (byte ht) fun _ u _ hu => hu

theorem BusKeeps.returnToCaller (hP : BusKeeps W P) (hsp : ∀ s v, P s → P (s.setSP v))
    (hpc : ∀ s v, P s → P (s.setPC v)) (hs : P s) : P (returnToCaller s).state :=
  Res.bind_keeps (hP.popWord hsp hs) fun target _ _ ht =>
    Res.bind_keeps (hP.tick_state ht) fun _ u _ hu => hpc u target hu

theorem pushAddrs_of_regs {s t : State} (h : t.regs = s.regs) : t.pushAddrs = s.pushAddrs := by
  simp [State.pushAddrs, State.sp, h]

theorem BusKeeps.serviceInterrupt (hP : BusKeeps W P) (hsp : ∀ s v, P s → P (s.setSP v))
    (hpc : ∀ s v, P s → P (s.setPC v)) (hW : ∀ a ∈ s.pushAddrs, W a) (hs : P (acceptInterrupt s)) :
    P (serviceInterrupt s).state := by
  refine Res.bind_keeps (hP.tick_state hs) fun _ t ht hPt => ?_
  refine Res.bind_keeps (hP.tick_state hPt) fun _ u hu hPu => ?_
  have hregs : u.regs = s.regs := (regs_of_tick hu).trans (regs_of_tick ht : t.regs = (acceptInterrupt s).regs)
  refine Res.bind_keeps (hP.pushWord hsp _ (pushAddrs_of_regs hregs ▸ hW) hPu) fun _ w _ hPw => ?_
  exact Res.bind_keeps (hP.tick_state hPw) fun _ x _ hPx => hpc x _ hPx

end

end Sys2Proof.Machine
end

section
/-! SUPPORT. What the rule of a form leaves alone in the register file (R45 to R47) and in the control latches (R48 to
R52), and the walk over the forms: a predicate that survives the bus cycles of a form and the writes its rule names
holds in the state in which an instruction of that form ends, faulting or not. -/

namespace Sys2Proof

open Sys2Proof.Machine

/-! ## The register file -/

theorem Machine.Regs.get_set (g : Regs) (r q : R8) (v : Byte) : (g.set r v).get q = if q = r then v else g.get q := by
  cases r <;> cases q <;> rfl

/-- `fl'` differs from `fl` at most in the flags that the rule of `f` names. -/
structure Form.LeavesFlags (f : Form) (fl fl' : Flags) : Prop where
  z : f.writesFlags.z = false → fl'.z = fl.z
  n : f.writesFlags.n = false → fl'.n = fl.n
  h : f.writesFlags.h = false → fl'.h = fl.h
  c : f.writesFlags.c = false → fl'.c = fl.c

/-- `g'` differs from `g` at most in the registers and flags that the rule of `f` names. -/
structure Form.LeavesRegs (f : Form) (g g' : Regs) : Prop where
  reg   : ∀ r, r ∉ f.writes → g'.get r = g.get r
  sp    : f.writesSp = false → g'.sp = g.sp
  pc    : f.writesPc = false → g'.pc = g.pc
  flags : f.LeavesFlags g.flags g'.flags

namespace Form

variable {f : Form} {g g' g'' : Regs}

theorem LeavesFlags.refl (f : Form) (fl : Flags) : f.LeavesFlags fl fl :=
  ⟨fun _ => rfl, fun _ => rfl, fun _ => rfl, fun _ => rfl⟩

theorem LeavesFlags.of_all (h : f.writesFlags = ⟨true, true, true, true⟩) (fl fl' : Flags) : f.LeavesFlags fl fl' := by
  constructor <;> simp [h]

theorem LeavesRegs.refl (f : Form) (g : Regs) : f.LeavesRegs g g :=
  ⟨fun _ _ => rfl, fun _ => rfl, fun _ => rfl, .refl f _⟩

theorem LeavesRegs.trans (h : f.LeavesRegs g g') (k : f.LeavesRegs g' g'') : f.LeavesRegs g g'' where
  reg r hr := (k.reg r hr).trans (h.reg r hr)
  sp hf := (k.sp hf).trans (h.sp hf)
  pc hf := (k.pc hf).trans (h.pc hf)
  flags := ⟨fun hf => (k.flags.z hf).trans (h.flags.z hf), fun hf => (k.flags.n hf).trans (h.flags.n hf),
    fun hf => (k.flags.h hf).trans (h.flags.h hf), fun hf => (k.flags.c hf).trans (h.flags.c hf)⟩

theorem LeavesRegs.set {r : R8} {v : Byte} (h : r ∈ f.writes ∨ v = g.get r) : f.LeavesRegs g (g.set r v) := by
  refine ⟨fun q hq => ?_, fun _ => by cases r <;> rfl, fun _ => by cases r <;> rfl, ?_⟩
  · rw [Regs.get_set]
    split
    · next hqr =>
      subst hqr
      exact h.resolve_left hq
    · rfl
  · have : (g.set r v).flags = g.flags := by cases r <;> rfl
    rw [this]
    exact .refl f _

theorem LeavesRegs.withFlags {fl : Flags} (h : f.LeavesFlags g.flags fl) : f.LeavesRegs g { g with flags := fl } :=
  ⟨fun r _ => by cases r <;> rfl, fun _ => rfl, fun _ => rfl, h⟩

theorem LeavesRegs.withSp (h : f.writesSp = true) (v : Word) : f.LeavesRegs g { g with sp := v } :=
  ⟨fun r _ => by cases r <;> rfl, by simp [h], fun _ => rfl, .refl f _⟩

theorem LeavesRegs.withPc (h : f.writesPc = true) (v : Word) : f.LeavesRegs g { g with pc := v } :=
  ⟨fun r _ => by cases r <;> rfl, fun _ => rfl, by simp [h], .refl f _⟩

/-- A pair is its halves, or SP. -/
theorem LeavesRegs.setPair {rr : R16} (hr : ∀ r ∈ halves rr, r ∈ f.writes) (hsp : rr = .sp → f.writesSp = true)
    (v : Word) : f.LeavesRegs g (g.setPair rr v) := by
  have two {r q : R8} (h : halves rr = [r, q]) (x y : Byte) : f.LeavesRegs g ((g.set r x).set q y) :=
    (LeavesRegs.set (.inl (hr r (by simp [h])))).trans (.set (.inl (hr q (by simp [h]))))
  cases rr with
  | bc => exact two (r := .b) (q := .c) rfl (hiByte v) (loByte v)
  | de => exact two (r := .d) (q := .e) rfl (hiByte v) (loByte v)
  | hl => exact two (r := .h) (q := .l) rfl (hiByte v) (loByte v)
  | sp => exact .withSp (hsp rfl) v

/-- What a POP writes. -/
theorem LeavesRegs.setStk (rr : R16Stk) (v : Word) : (Form.pop rr).LeavesRegs g (g.setStk rr v) := by
  have two {r q : R8} (h : (Form.pop rr).writes = [r, q]) (x y : Byte) :
      (Form.pop rr).LeavesRegs g ((g.set r x).set q y) :=
    (LeavesRegs.set (.inl (by simp [h]))).trans (.set (.inl (by simp [h])))
  cases rr with
  | bc => exact two (r := .b) (q := .c) rfl (hiByte v) (loByte v)
  | de => exact two (r := .d) (q := .e) rfl (hiByte v) (loByte v)
  | hl => exact two (r := .h) (q := .l) rfl (hiByte v) (loByte v)
  | af => exact (LeavesRegs.set (r := .a) (.inl (by decide))).trans (.withFlags (.of_all rfl _ _))

end Form

/-! ## The latches -/

/-- The control latches (R48 to R52). -/
structure Latches where
  ime       : Bool
  eiPending : Bool
  halted    : Bool
  haltBug   : Bool

/-- The latches of a state. -/
def Machine.State.latches (s : State) : Latches := ⟨s.ime, s.eiPending, s.halted, s.haltBug⟩

/-- Write the latches. -/
def Machine.State.setLatches (s : State) (l : Latches) : State :=
  { s with ime := l.ime, eiPending := l.eiPending, halted := l.halted, haltBug := l.haltBug }

/-- `l'` differs from `l` at most in the latches that the rule of `f` names. -/
structure Form.LeavesLatches (f : Form) (l l' : Latches) : Prop where
  ime       : f ≠ .di → f ≠ .reti → l'.ime = l.ime
  eiPending : f ≠ .di → f ≠ .ei → l'.eiPending = l.eiPending
  halt      : f ≠ .halt → l'.halted = l.halted ∧ l'.haltBug = l.haltBug

theorem Form.LeavesLatches.refl (f : Form) (l : Latches) : f.LeavesLatches l l :=
  ⟨fun _ _ => rfl, fun _ _ => rfl, fun _ => ⟨rfl, rfl⟩⟩

theorem Form.LeavesLatches.trans {f : Form} {l l' l'' : Latches} (h : f.LeavesLatches l l')
    (k : f.LeavesLatches l' l'') : f.LeavesLatches l l'' where
  ime h1 h2 := (k.ime h1 h2).trans (h.ime h1 h2)
  eiPending h1 h2 := (k.eiPending h1 h2).trans (h.eiPending h1 h2)
  halt h1 := ⟨(k.halt h1).1.trans (h.halt h1).1, (k.halt h1).2.trans (h.halt h1).2⟩

/-! ## The walk -/

theorem Machine.onCond_keeps {P : State → Prop} {s : State} {cc : Cond} {k : State → Res Unit}
    (h : s.flags.holds cc = true → P (k s).state) (hs : P s) : P (onCond cc k s).state := by
  unfold onCond
  split
  · next hc => exact h hc
  · exact hs

/-- `P` survives all that an instruction of form `f` may do, if it stores only to addresses in `W`. -/
structure Form.Keeps (f : Form) (W : Word → Prop) (P : State → Prop) : Prop extends BusKeeps W P where
  regs    : ∀ (s : State) g, f.LeavesRegs s.regs g → P s → P { s with regs := g }
  latches : ∀ s l, f.LeavesLatches s.latches l → P s → P (s.setLatches l)

namespace Form.Keeps

variable {f : Form} {W : Word → Prop} {P : State → Prop} {s : State} (hP : f.Keeps W P)
include hP

theorem setR8 {r : R8} {v : Byte} (h : r ∈ f.writes ∨ v = s.r8 r) (hs : P s) : P (s.setR8 r v) :=
  hP.regs s _ (.set h) hs

theorem setFlags {fl : Flags} (h : f.LeavesFlags s.flags fl) (hs : P s) : P (s.setFlags fl) :=
  hP.regs s _ (.withFlags h) hs

theorem setAF {x : Byte × Flags} (ha : .a ∈ f.writes ∨ x.1 = s.r8 .a) (hf : f.LeavesFlags s.flags x.2) (hs : P s) :
    P (s.setAF x) := by
  refine hP.setFlags ?_ (hP.setR8 ha hs)
  rwa [setR8_flags]

theorem setR16 {rr : R16} (hr : ∀ r ∈ halves rr, r ∈ f.writes) (hsp : rr = .sp → f.writesSp = true) (v : Word)
    (hs : P s) : P (s.setR16 rr v) :=
  hP.regs s _ (.setPair hr hsp v) hs

theorem setSP (h : f.writesSp = true) (s : State) (v : Word) (hs : P s) : P (s.setSP v) := hP.regs s _ (.withSp h v) hs

theorem setPC (h : f.writesPc = true) (s : State) (v : Word) (hs : P s) : P (s.setPC v) := hP.regs s _ (.withPc h v) hs

/-! 8-bit loads. -/

theorem loadReg {dst : R8} (h : dst ∈ f.writes) (a : Word) (hs : P s) : P (loadReg dst a s).state :=
  Res.bind_keeps (hP.memRead a hs) fun _ _ _ ht => hP.setR8 (.inl h) ht

theorem loadAMoveHl (h : f.writes = [.a, .h, .l]) (d : Word) (hs : P s) : P (loadAMoveHl d s).state :=
  Res.bind_keeps (hP.memRead _ hs) fun _ _ _ ht =>
    hP.setR16 (by simp [halves, h]) (by simp) _ (hP.setR8 (.inl (by simp [h])) ht)

theorem storeAMoveHl (h : f.writes = [.h, .l]) (d : Word) (hW : W (s.r16 .hl)) (hs : P s) :
    P (storeAMoveHl d s).state :=
  Res.bind_keeps (hP.memWrite _ hW hs) fun _ _ _ ht => hP.setR16 (by simp [halves, h]) (by simp) _ ht

/-! Operations that read and write flags. -/

theorem aluWith {op : AluOp} (hw : f.writes = if op = .cp then [] else [.a])
    (hf : f.writesFlags = ⟨true, true, true, true⟩) (v : Byte) (hs : P s) : P (aluWith op v s).state := by
  refine hP.setAF ?_ (.of_all hf _ _) hs
  by_cases hop : op = .cp
  · subst hop
    exact .inr rfl
  · exact .inl (by simp [hw, hop])

theorem modifyReg {op : Byte → Flags → Byte × Flags} {r : R8} (hr : r ∈ f.writes)
    (hf : ∀ v fl, f.LeavesFlags fl (op v fl).2) (hs : P s) : P (modifyReg op r s).state := by
  refine hP.setFlags ?_ (hP.setR8 (.inl hr) hs)
  rw [setR8_flags]
  exact hf _ _

theorem modifyAtHl {op : Byte → Flags → Byte × Flags} (hf : ∀ v fl, f.LeavesFlags fl (op v fl).2)
    (hW : W (s.r16 .hl)) (hs : P s) : P (modifyAtHl op s).state := by
  refine Res.bind_keeps (hP.memRead _ hs) fun v t ht hPt => ?_
  refine Res.bind_keeps (hP.memWrite _ hW hPt) fun _ u hu hPu => hP.setFlags ?_ hPu
  have : u.flags = s.flags := congrArg Regs.flags ((regs_of_memWrite hu).trans (regs_of_memRead ht))
  rw [this]
  exact hf v _

theorem rotAtHl (op : RotOp) (hf : f.writesFlags = ⟨true, true, true, true⟩) (hW : W (s.r16 .hl)) (hs : P s) :
    P (Machine.rotAtHl op s).state :=
  Res.bind_keeps (hP.memRead _ hs) fun _ _ _ ht => hP.memWrite _ hW (hP.setFlags (.of_all hf _ _) ht)

theorem readModifyWrite (k : Byte → Byte) (hW : W (s.r16 .hl)) (hs : P s) :
    P ((Machine.memRead (s.r16 .hl) s).bind fun v t => Machine.memWrite (s.r16 .hl) (k v) t).state :=
  Res.bind_keeps (hP.memRead _ hs) fun _ _ _ ht => hP.memWrite _ hW ht

/-! Control transfers. -/

theorem jumpTo (h : f.writesPc = true) (target : Word) (hs : P s) : P (jumpTo target s).state :=
  Res.bind_keeps (hP.tick_state hs) fun _ t _ ht => hP.setPC h t target ht

theorem callTo (hpc : f.writesPc = true) (hsp : f.writesSp = true) (target : Word) (hW : ∀ a ∈ s.pushAddrs, W a)
    (hs : P s) : P (callTo target s).state := by
  refine Res.bind_keeps (hP.tick_state hs) fun _ t ht hPt => ?_
  refine Res.bind_keeps (hP.pushWord (hP.setSP hsp) _ ?_ hPt) fun _ u _ hPu => hP.setPC hpc u target hPu
  rwa [pushAddrs_of_regs (regs_of_tick ht)]

end Form.Keeps

theorem Form.stores_callCond {cc : Cond} {nn : Word} {s : State} (h : s.flags.holds cc = true) :
    (Form.callCond cc nn).stores s = s.pushAddrs :=
  if_pos h

/-- What survives all that a form may do holds in the state in which an instruction of that form ends. -/
theorem Form.run_keeps {f : Form} {W : Word → Prop} {P : State → Prop} {s : State} (hP : f.Keeps W P)
    (hW : ∀ a ∈ f.stores s, W a) (hs : P s) : P (f.run s).state := by
  cases f with
  | ldRegReg dst src => exact hP.setR8 (.inl (by simp [Form.writes])) hs
  | ldRegImm dst n => exact hP.setR8 (.inl (by simp [Form.writes])) hs
  | ldRegAtHl dst => exact hP.loadReg (by simp [Form.writes]) _ hs
  | ldAAtBc | ldAAtDe | ldAAtNn nn | ldhAAtN n | ldAAtC => exact hP.loadReg (by simp [Form.writes]) _ hs
  | ldAtHlReg src | ldAtHlImm n | ldAtBcA | ldAtDeA | ldAtNnA nn | ldhAtNA n | ldAtCA =>
    exact hP.memWrite _ (hW _ List.mem_cons_self) hs
  | ldAAtHlInc | ldAAtHlDec => exact hP.loadAMoveHl rfl _ hs
  | ldAtHlIncA | ldAtHlDecA => exact hP.storeAMoveHl rfl _ (hW _ List.mem_cons_self) hs
  | ldPairImm rr nn => exact hP.setR16 (by simp [Form.writes]) decide_eq_true _ hs
  | ldAtNnSp nn =>
    exact Res.bind_keeps (hP.memWrite _ (hW _ List.mem_cons_self) hs) fun _ _ _ ht =>
      hP.memWrite _ (hW _ (List.mem_cons_of_mem _ List.mem_cons_self)) ht
  | ldSpHl => exact Res.bind_keeps (hP.tick_state hs) fun _ t _ ht => hP.setSP rfl t _ ht
  | push rr =>
    refine Res.bind_keeps (hP.tick_state hs) fun _ t ht hPt => hP.pushWord (hP.setSP rfl) _ ?_ hPt
    rwa [pushAddrs_of_regs (regs_of_tick ht)]
  | pop rr => exact Res.bind_keeps (hP.popWord (hP.setSP rfl) hs) fun v t _ ht => hP.regs t _ (.setStk rr v) ht
  | ldHlSpE e =>
    exact Res.bind_keeps (hP.tick_state hs) fun _ t _ ht =>
      hP.setFlags (.of_all rfl _ _) (hP.setR16 (by simp [Form.writes, halves]) (by simp) _ ht)
  | aluReg op src | aluImm op n => exact hP.aluWith rfl rfl _ hs
  | aluAtHl op => exact Res.bind_keeps (hP.memRead _ hs) fun v _ _ ht => hP.aluWith rfl rfl v ht
  | incReg r | decReg r =>
    exact hP.modifyReg (by simp [Form.writes]) (fun _ _ => by constructor <;> simp [Form.writesFlags, inc8, dec8]) hs
  | incAtHl | decAtHl =>
    exact hP.modifyAtHl (fun _ _ => by constructor <;> simp [Form.writesFlags, inc8, dec8])
      (hW _ List.mem_cons_self) hs
  | daa => exact hP.setAF (.inl (by simp [Form.writes])) (by constructor <;> simp [Form.writesFlags, daaResult]) hs
  | cpl => exact hP.setAF (.inl (by simp [Form.writes])) (by constructor <;> simp [Form.writesFlags, cplResult]) hs
  | scf | ccf => exact hP.setFlags (by constructor <;> simp [Form.writesFlags, scfFlags, ccfFlags]) hs
  | addHl rr =>
    refine Res.bind_keeps (hP.tick_state hs) fun _ t ht hPt => ?_
    refine hP.setFlags ?_ (hP.setR16 (by simp [Form.writes, halves]) (by simp) _ hPt)
    have : t.flags = s.flags := congrArg Regs.flags (regs_of_tick ht)
    rw [setR16_flags, this]
    constructor <;> simp [Form.writesFlags, addHlResult]
  | incPair rr | decPair rr =>
    exact Res.bind_keeps (hP.tick_state hs) fun _ _ _ ht =>
      hP.setR16 (by simp [Form.writes]) decide_eq_true _ ht
  | addSpE e =>
    exact Res.bind_keeps (hP.tick_state hs) fun _ _ _ ht => Res.bind_keeps (hP.tick_state ht) fun _ u _ hu =>
      hP.setFlags (.of_all rfl _ _) (hP.setSP rfl u _ hu)
  | rlca | rrca | rla | rra => exact hP.setAF (.inl (by simp [Form.writes])) (.of_all rfl _ _) hs
  | rotReg op r => exact hP.modifyReg (by simp [Form.writes]) (fun _ _ => .of_all rfl _ _) hs
  | rotAtHl op => exact hP.rotAtHl op rfl (hW _ List.mem_cons_self) hs
  | bitReg b r => exact hP.setFlags (by constructor <;> simp [Form.writesFlags, bitFlags]) hs
  | bitAtHl b =>
    refine Res.bind_keeps (hP.memRead _ hs) fun v t ht hPt => hP.setFlags ?_ hPt
    have : t.flags = s.flags := congrArg Regs.flags (regs_of_memRead ht)
    rw [this]
    constructor <;> simp [Form.writesFlags, bitFlags]
  | resReg b r | setReg b r => exact hP.setR8 (.inl (by simp [Form.writes])) hs
  | resAtHl b | setAtHl b => exact hP.readModifyWrite _ (hW _ List.mem_cons_self) hs
  | jp nn | jr e => exact hP.jumpTo rfl _ hs
  | jpCond cc nn | jrCond cc e => exact onCond_keeps (fun _ => hP.jumpTo rfl _ hs) hs
  | jpHl => exact hP.setPC rfl s _ hs
  | call nn | rst y => exact hP.callTo rfl rfl _ hW hs
  | callCond cc nn =>
    exact onCond_keeps (fun hcc => hP.callTo rfl rfl _ (Form.stores_callCond hcc ▸ hW) hs) hs
  | ret => exact hP.returnToCaller (hP.setSP rfl) (hP.setPC rfl) hs
  | retCond cc =>
    exact Res.bind_keeps (hP.tick_state hs) fun _ _ _ ht =>
      onCond_keeps (fun _ => hP.returnToCaller (hP.setSP rfl) (hP.setPC rfl) ht) ht
  | reti =>
    exact Res.bind_keeps (hP.returnToCaller (hP.setSP rfl) (hP.setPC rfl) hs) fun _ t _ ht =>
      hP.latches t ⟨true, t.eiPending, t.halted, t.haltBug⟩ (by constructor <;> simp [State.latches]) ht
  | nop | prefixCb => exact hs
  | halt =>
    show P (Machine.halt s).state
    unfold Machine.halt
    split
    · exact hP.latches s ⟨s.ime, s.eiPending, s.halted, true⟩ (by constructor <;> simp [State.latches]) hs
    · exact hP.latches s ⟨s.ime, s.eiPending, true, s.haltBug⟩ (by constructor <;> simp [State.latches]) hs
  | stop => exact hP.fault s (.unmodelledInstruction _ _) rfl hs
  | illegal op => exact hP.fault s (.undefinedOpcode _ _) rfl hs
  | di => exact hP.latches s ⟨false, false, s.halted, s.haltBug⟩ (by constructor <;> simp [State.latches]) hs
  | ei => exact hP.latches s ⟨s.ime, true, s.halted, s.haltBug⟩ (by constructor <;> simp [State.latches]) hs

theorem exec_keeps {i : Instr} (hi : i.WellFormed) {W : Word → Prop} {P : State → Prop} {s t : State}
    (hP : i.form.Keeps W P) (hW : ∀ a ∈ i.form.stores s, W a) (hs : P s) (h : exec i s = .next t) : P t := by
  rw [exec_eq_run hi] at h
  cases h
  exact Form.run_keeps hP hW hs

end Sys2Proof
end

section
/-! SUPPORT. The facts about a fetch that the statements about a step need (R184 to R188), and what the parts of a step
keep. -/

namespace Sys2Proof

open Sys2Proof.Machine

theorem primary_isWhole_or_escape (op b1 b2 : Byte) : op = escapeByte ∨ (primary op b1 b2).WellFormed := by
  have h : ∀ i j : Fin 16, (((primaryTable.get i).get j) b1 b2).isWhole = !decide (i = 12 ∧ j = 11) := by
    intro i j
    fin_cases i <;> fin_cases j <;> rfl
  by_cases hcell : hiNibble op = 12 ∧ loNibble op = 11
  case neg => exact .inr ((h _ _).trans (by simp [hcell]))
  obtain ⟨hi, hj⟩ := hcell
  left
  have hi := congrArg Fin.val hi
  have hj := congrArg Fin.val hj
  apply BitVec.eq_of_toNat_eq
  simp only [hiNibble, loNibble] at hi hj
  have : escapeByte.toNat = 203 := rfl
  omega

theorem assemble_isWhole (op b1 b2 : Byte) : (assemble op b1 b2).WellFormed := by
  unfold assemble
  split
  · exact secondary_isWhole b1
  · next h => exact (primary_isWhole_or_escape op b1 b2).resolve_left h

namespace Machine

/-- A fetch answers whole instructions only: the escape byte comes with its second byte (R188). -/
theorem fetchInstr_isWhole {s t : State} {i : Instr} (h : fetchInstr s = .ok i t) : i.WellFormed := by
  obtain ⟨op, u, -, hu⟩ := Res.bind_eq_ok h
  split at hu
  · cases hu
    exact assemble_isWhole _ _ _
  · obtain ⟨b1, w, -, hw⟩ := Res.bind_eq_ok hu
    cases hw
    exact assemble_isWhole _ _ _
  · obtain ⟨b1, w, -, hw⟩ := Res.bind_eq_ok hu
    obtain ⟨b2, x, -, hx⟩ := Res.bind_eq_ok hw
    cases hx
    exact assemble_isWhole _ _ _

end Machine

/-! ## A whole step -/

namespace Machine

/-- What a step is, one of three (R180 to R183). -/
theorem step_cases {s t : State} (h : step s = .next t) : s.fault = none ∧
    ((s.acceptsInterrupt = true ∧ t = (serviceInterrupt (beginStep s)).state) ∨
     (s.acceptsInterrupt = false ∧ t = (beginStep s).ticked) ∨
     (s.acceptsInterrupt = false ∧ fetchInstr (wake (beginStep s)) = .stop t) ∨
     (s.acceptsInterrupt = false ∧ ∃ i u v, fetchInstr (wake (beginStep s)) = .ok i u ∧ exec i u = .next v ∧
       t = applyDelayedEi s.eiPending v)) := by
  unfold step at h
  split at h
  · cases h
  · next hf =>
    refine ⟨hf, ?_⟩
    split at h
    · next ha =>
      cases h
      exact .inl ⟨ha, rfl⟩
    · next ha =>
      have ha : s.acceptsInterrupt = false := by simpa using ha
      split at h
      · cases h
        exact .inr (.inl ⟨ha, rfl⟩)
      · unfold executeInstruction at h
        split at h
        · next i u hi =>
          obtain ⟨v, hv⟩ := exec_next i u
          rw [hv] at h
          cases h
          exact .inr (.inr (.inr ⟨ha, i, u, v, hi, hv, rfl⟩))
        · next u hu =>
          cases h
          exact .inr (.inr (.inl ⟨ha, hu⟩))

/-! ## The invariant -/

/-- The invariant, with no fault recorded but a decode fault or an opcode's (R572). -/
structure State.Safe (s : State) : Prop where
  inv     : s.Inv
  noCheck : ∀ f, s.fault = some f → f.isCheck = false

theorem State.Inv.safe {s : State} (h : s.Inv) (hf : s.fault = none) : s.Safe := ⟨h, by simp [hf]⟩

theorem State.Safe.withRegs {s : State} (h : s.Safe) (g : Regs) : State.Safe { s with regs := g } :=
  ⟨withRegs_inv h.inv g, h.noCheck⟩

theorem State.Safe.setLatches {s : State} (h : s.Safe) (l : Latches) : (s.setLatches l).Safe :=
  ⟨⟨h.inv.1, h.inv.2, h.inv.3⟩, h.noCheck⟩

theorem safe_busKeeps : BusKeeps (fun _ => True) State.Safe where
  tick s h := ⟨ticked_inv h.inv, by rw [ticked_fault h.inv]; exact h.noCheck⟩
  read s a h := ⟨noteRead_inv h.inv a, by rw [noteRead_fault]; exact h.noCheck⟩
  write s a v _ h := ⟨busStore_inv h.inv a v, by rw [busStore_fault]; exact h.noCheck⟩
  fault s f hf h := ⟨⟨h.inv.1, h.inv.2, h.inv.3⟩, fun g hg => Option.some.inj hg ▸ hf⟩

theorem safe_keeps (f : Form) : f.Keeps (fun _ => True) State.Safe where
  toBusKeeps := safe_busKeeps
  regs _ g _ h := h.withRegs g
  latches _ l _ h := h.setLatches l

theorem applyDelayedEi_safe (b : Bool) {s : State} (h : s.Safe) : (applyDelayedEi b s).Safe := by
  unfold applyDelayedEi
  split
  · exact h.setLatches ⟨true, false, s.halted, s.haltBug⟩
  · exact h

theorem step_safe {s t : State} (hs : s.Safe) (h : step s = .next t) : t.Safe := by
  have setSP (s : State) (v : Word) (h : s.Safe) : (s.setSP v).Safe := h.withRegs _
  have setPC (s : State) (v : Word) (h : s.Safe) : (s.setPC v).Safe := h.withRegs _
  have begun : (beginStep s).Safe := ⟨⟨hs.inv.1, hs.inv.2, hs.inv.3⟩, hs.noCheck⟩
  have accepted : (acceptInterrupt (beginStep s)).Safe := ⟨⟨hs.inv.1, hs.inv.2, hs.inv.3⟩, hs.noCheck⟩
  have fetched : (fetchInstr (wake (beginStep s))).state.Safe :=
    safe_busKeeps.fetchInstr setPC (fun u hu => hu.setLatches ⟨u.ime, u.eiPending, u.halted, false⟩)
      (begun.setLatches ⟨s.ime, s.eiPending, false, s.haltBug⟩)
  obtain ⟨-, ⟨-, rfl⟩ | ⟨-, rfl⟩ | ⟨-, hu⟩ | ⟨-, i, u, v, hi, hv, rfl⟩⟩ := step_cases h
  · exact safe_busKeeps.serviceInterrupt setSP setPC (fun _ _ => trivial) accepted
  · exact safe_busKeeps.tick _ begun
  · rwa [hu] at fetched
  · rw [hi] at fetched
    exact applyDelayedEi_safe _ (exec_keeps (fetchInstr_isWhole hi) (safe_keeps _) (fun _ _ => trivial) fetched hv)

/-! ## The frames of an instruction -/

theorem leavesRegs_keeps (f : Form) (s : State) : f.Keeps (fun _ => True) (fun t => f.LeavesRegs s.regs t.regs) where
  tick t h := by rwa [ticked_regs]
  read t a h := by rwa [noteRead_regs]
  write t a v _ h := by rwa [busStore_regs]
  fault _ _ _ h := h
  regs _ _ hg h := h.trans hg
  latches _ _ _ h := h

/-- From `s` to `t` no latch changes that the rule of `f` does not name, nor the latch of PC, nor a launch parameter. -/
structure LeavesControl (f : Form) (s t : State) : Prop where
  latches : f.LeavesLatches s.latches t.latches
  opPC    : t.opPC = s.opPC
  params  : t.params = s.params

@[simp] theorem ticked_latches (s : State) : s.ticked.latches = s.latches := by simp [State.latches]
@[simp] theorem noteRead_latches (s : State) (a : Word) : (s.noteRead a).latches = s.latches := by simp [State.latches]
@[simp] theorem busStore_latches (s : State) (a : Word) (v : Byte) : (s.busStore a v).latches = s.latches := by
  simp [State.latches]

theorem leavesControl_keeps (f : Form) (s : State) : f.Keeps (fun _ => True) (LeavesControl f s) where
  tick t h := ⟨by simpa using h.latches, by simpa using h.opPC, by simpa using h.params⟩
  read t a h := ⟨by simpa using h.latches, by simpa using h.opPC, by simpa using h.params⟩
  write t a v _ h := ⟨by simpa using h.latches, by simpa using h.opPC, by simpa using h.params⟩
  fault _ _ _ h := ⟨h.latches, h.opPC, h.params⟩
  regs _ _ _ h := ⟨h.latches, h.opPC, h.params⟩
  latches _ _ hl h := ⟨h.latches.trans hl, h.opPC, h.params⟩

theorem busStore_onlyTicks (s : State) {a : Word} (v : Byte) (ha : regionOf a ≠ .regBank) :
    OnlyTicks s (s.busStore a v) := by
  unfold State.busStore
  split
  · split <;> exact .of_eq rfl rfl rfl rfl rfl
  case h_7 h => exact absurd h ha
  all_goals exact .of_eq rfl rfl rfl rfl rfl

theorem noteRead_onlyTicks (s : State) (a : Word) : OnlyTicks s (s.noteRead a) := by
  unfold State.noteRead
  split
  · refine ⟨Nat.le_refl _, by simp [Timer.run], .refl _, fun _ _ h => h, fun _ _ _ _ => rfl,
      by simp [audioAccess], fun e he => ?_⟩
    rcases List.mem_cons.1 he with rfl | h
    · exact .inr rfl
    · exact .inl h
  · exact .refl s

/-- Outside the register bank an instruction lets the devices tick, and nothing more. -/
theorem onlyTicks_keeps (f : Form) (s : State) : f.Keeps (fun a => regionOf a ≠ .regBank) (OnlyTicks s) where
  tick t h := h.trans (ticked_onlyTicks t)
  read t a h := h.trans (noteRead_onlyTicks t a)
  write t _ v ha h := h.trans (busStore_onlyTicks t v ha)
  fault _ _ _ h := h.trans (.of_eq rfl rfl rfl rfl rfl)
  regs _ _ _ h := h.trans (.of_eq rfl rfl rfl rfl rfl)
  latches _ _ _ h := h.trans (.of_eq rfl rfl rfl rfl rfl)

theorem exec_leavesControl {i : Instr} (hi : i.WellFormed) {s t : State} (h : exec i s = .next t) :
    LeavesControl i.form s t :=
  exec_keeps hi (leavesControl_keeps i.form s) (fun _ _ => trivial) ⟨.refl _ _, rfl, rfl⟩ h

/-! ## IME along a step -/

theorem form_eq_di {i : Instr} (h : i.form = .di) : i = .di := by
  cases i
  case di => rfl
  all_goals cases h

theorem form_eq_reti {i : Instr} (h : i.form = .reti) : i = .reti := by
  cases i
  case reti => rfl
  all_goals cases h

theorem sameIme_busKeeps (b : Bool) : BusKeeps (fun _ => True) (fun t => t.ime = b) where
  tick t h := by rwa [ticked_ime]
  read t a h := by rwa [noteRead_ime]
  write t a v _ h := by rwa [busStore_ime]
  fault _ _ _ h := h

theorem fetchInstr_ime (s : State) : (fetchInstr s).state.ime = s.ime :=
  (sameIme_busKeeps s.ime).fetchInstr (fun _ _ h => h) (fun _ h => h) rfl

theorem applyDelayedEi_false (s : State) : applyDelayedEi false s = s := by simp [applyDelayedEi]

end Machine

end Sys2Proof
end

section
/-! SUPPORT. An address of a store on the bus, and the fetch of an instruction that lies in stores. -/

namespace Sys2Proof.Machine

open Sys2Proof

/-- The rows of the stores (R103, R104, R106, R108, R111). -/
theorem regionOf_of_store {a : Word} (h : isStore a.toNat = true) : regionOf a = .rom ∨ regionOf a = .vram ∨
    regionOf a = .wram ∨ regionOf a = .oam ∨ regionOf a = .hram := by
  simp only [isStore, isRom, isRam, Bool.or_eq_true, decide_eq_true_eq] at h
  unfold regionOf
  dsimp only
  split_ifs <;> simp <;> omega

/-- A store's address reads as the byte that memory holds there. -/
theorem busValue_of_store (s : State) {a : Word} (h : isStore a.toNat = true) : s.busValue a = s.mem.read a.toNat := by
  unfold State.busValue
  rcases regionOf_of_store h with h | h | h | h | h <;> rw [h]

theorem accessible_of_store (s : State) {a : Word} (h : isStore a.toNat = true) : s.accessible a = true := by
  unfold State.accessible
  rcases regionOf_of_store h with h | h | h | h | h <;> rw [h]

theorem readValue_of_store (s : State) {a : Word} (h : isStore a.toNat = true) :
    s.readValue a = s.mem.read a.toNat := by
  rw [State.readValue, busValue_of_store _ h, ticked_mem]

theorem afterRead_of_store (s : State) {a : Word} (h : isStore a.toNat = true) : s.afterRead a = s.ticked :=
  noteRead_of_store _ _ h

/-- A fetch of a byte in a store. -/
theorem fetch8_of_store {s : State} (hs : s.Inv) {a : Word} (h : isStore a.toNat = true) :
    fetch8 (s.setPC a) = .ok (s.mem.read a.toNat) (s.ticked.setPC (a + 1)) := by
  rw [fetch8_ok (setPC_inv hs a) (accessible_of_store _ h), setPC_pc, readValue_of_store _ h, afterRead_of_store _ h,
    ticked_setPC hs]
  rfl

theorem fetchOpcode_of_store {s : State} (hs : s.Inv) (hb : s.haltBug = false) (h : isStore s.pc.toNat = true) :
    fetchOpcode s = .ok (s.mem.read s.pc.toNat) (s.ticked.setPC (s.pc + 1)) := by
  unfold fetchOpcode
  rw [memRead_ok hs (accessible_of_store s h), readValue_of_store s h, afterRead_of_store s h]
  simp [afterOpcodeRead, hb]

end Sys2Proof.Machine

namespace Sys2Proof

open Sys2Proof.Machine

/-! ## The length of an instruction (R157) -/

theorem opcode_of_nibbles (op : Byte) : BitVec.ofNat 8 (16 * (hiNibble op).val + (loNibble op).val) = op := by
  apply BitVec.eq_of_toNat_eq
  have := op.isLt
  simp only [hiNibble, loNibble, BitVec.toNat_ofNat]
  omega

theorem encode_primary_length (op b1 b2 : Byte) (h : op ≠ escapeByte) :
    (encode (primary op b1 b2)).length = instrLength op := by
  have cell : ∀ i j : Fin 16, (encode (((primaryTable.get i).get j) b1 b2)).length =
      if (i, j) = (12, 11) then 1 else instrLength (BitVec.ofNat 8 (16 * i.val + j.val)) := by
    intro i j
    fin_cases i <;> fin_cases j <;> rfl
  have hcell : (hiNibble op, loNibble op) ≠ (12, 11) := by
    intro hc
    apply h
    obtain ⟨hhi, hlo⟩ := Prod.mk.inj hc
    rw [← opcode_of_nibbles op, hhi, hlo]
    rfl
  refine (cell _ _).trans ?_
  rw [if_neg hcell, opcode_of_nibbles]

theorem encode_secondary_length (op2 : Byte) : (encode (secondary op2)).length = 2 := by
  have cell : ∀ i j : Fin 16, (encode ((secondaryTable.get i).get j)).length = 2 := by decide
  exact cell _ _

/-- The first byte alone gives the length of the instruction that is read from it. -/
theorem encode_assemble_length (op b1 b2 : Byte) : (encode (assemble op b1 b2)).length = instrLength op := by
  unfold assemble
  split
  · next h =>
    subst h
    exact encode_secondary_length b1
  · next h => exact encode_primary_length op b1 b2 h

/-- From three bytes an instruction of each length can be read. -/
theorem decode_three {b0 b1 b2 : Byte} {i : Instr} {rest : List Byte} (h : decode [b0, b1, b2] = .ok (i, rest)) :
    (instrLength b0 = 1 ∧ i = assemble b0 0 0) ∨ (instrLength b0 = 2 ∧ i = assemble b0 b1 0) ∨
      (instrLength b0 = 3 ∧ i = assemble b0 b1 b2) := by
  unfold decode at h
  split at h
  · cases h
  · next hc =>
    cases hc
    split at h
    · next hl => cases h; exact .inl ⟨hl, rfl⟩
    · next hl hc => cases h; cases hc; exact .inr (.inl ⟨hl, rfl⟩)
    · next hl hc => cases h; cases hc; exact .inr (.inr ⟨hl, rfl⟩)
    · split at h
      · next hc => cases hc.2
      · cases h

namespace Machine

/-- A fetch of an instruction whose bytes lie in stores: a tick for each byte, and PC behind the last. -/
theorem fetchInstr_of_stores {s : State} {i : Instr} {rest : List Byte} (hs : s.Inv) (hb : s.haltBug = false)
    (hd : decode s.codeBytes = .ok (i, rest))
    (hst : ∀ k < (encode i).length, isStore (s.pc + BitVec.ofNat 16 k).toNat = true) :
    fetchInstr s = .ok i
      ((State.ticks (encode i).length s).setPC (s.pc + BitVec.ofNat 16 (encode i).length)) := by
  have hpos : 0 < (encode i).length := by
    rcases decode_three hd with ⟨hl, rfl⟩ | ⟨hl, rfl⟩ | ⟨hl, rfl⟩ <;> rw [encode_assemble_length, hl] <;> decide
  have h0 : isStore s.pc.toNat = true := by simpa using hst 0 hpos
  have next1 : s.pc + 1 + 1 = s.pc + 2 := add_one_add_one _
  have next2 : s.pc + 2 + 1 = s.pc + 3 := by bv_omega
  unfold fetchInstr
  rw [fetchOpcode_of_store hs hb h0, Res.ok_bind]
  rcases decode_three hd with ⟨hl, rfl⟩ | ⟨hl, rfl⟩ | ⟨hl, rfl⟩ <;> rw [encode_assemble_length, hl] at hst ⊢ <;>
    simp only
  case inl => rfl
  all_goals
    have h1 : isStore (s.pc + 1).toNat = true := hst 1 (by decide)
    rw [fetch8_of_store (ticked_inv hs) h1, Res.ok_bind, ticked_mem, next1]
  case inr.inl => rfl
  have h2 : isStore (s.pc + 2).toNat = true := hst 2 (by decide)
  rw [fetch8_of_store (ticked_inv (ticked_inv hs)) h2, Res.ok_bind, ticked_mem, ticked_mem, next2]
  rfl

theorem step_of_executes {s : State} (h : s.Executes) : step s = executeInstruction (wake (beginStep s)) := by
  obtain ⟨hfault, haccept, hidle⟩ := h
  simp [step, hfault, haccept, hidle]

end Machine

end Sys2Proof
end

section
/-! SUPPORT. The timer over many ticks, and an enabled timer over one period (R60, R530 to R533): ticks that end before the
selected bit falls, the one in which it falls, and ticks after it. -/

namespace Sys2Proof.Machine

open Sys2Proof

theorem Timer.tick_config (t : Timer) :
    t.tick.1.tma = t.tma ∧ t.tick.1.tac = t.tac ∧ t.tick.1.sysclk = t.sysclk + 4 := by
  unfold Timer.tick Timer.countEdge Timer.inc
  split
  · split <;> exact ⟨rfl, rfl, rfl⟩
  · exact ⟨rfl, rfl, rfl⟩

theorem Timer.run_config (n : Nat) (t : Timer) :
    (Timer.run n t).1.tma = t.tma ∧ (Timer.run n t).1.tac = t.tac ∧
      (Timer.run n t).1.sysclk = t.sysclk + 4 * BitVec.ofNat 16 n := by
  induction n generalizing t with
  | zero => simp [Timer.run]
  | succ n ih =>
    obtain ⟨htma, htac, hclk⟩ := ih t.tick.1
    obtain ⟨htma', htac', hclk'⟩ := t.tick_config
    refine ⟨htma.trans htma', htac.trans htac', hclk.trans ?_⟩
    rw [hclk', BitVec.ofNat_add, BitVec.mul_add, BitVec.add_assoc, BitVec.add_comm (4 * _)]
    rfl

/-! ## One period -/

/-- The selected bit of `sysclk` with the bits below it: it starts again from 0 where the bit falls. -/
def Timer.phase (t : Timer) : Nat := t.sysclk.toNat % 2 ^ (t.selectedBit + 1)

/-- `sysclk` after `n` ticks, and nothing counted. -/
def Timer.quiet (n : Nat) (t : Timer) : Timer := { t with sysclk := t.sysclk + BitVec.ofNat 16 (4 * n) }

theorem Timer.selectedBit_bounds (t : Timer) : 3 ≤ t.selectedBit ∧ t.selectedBit < 16 := by
  unfold Timer.selectedBit
  split <;> decide

/-- The selected bit falls once in a period (the table of R60). -/
theorem Timer.period_eq (t : Timer) : 2 ^ (t.selectedBit + 1) = 4 * Timer.period (t.tac.extractLsb' 0 2) := by
  unfold Timer.selectedBit
  generalize t.tac = c
  revert c
  decide

theorem Timer.phase_lt (t : Timer) : t.phase < 2 ^ (t.selectedBit + 1) := Nat.mod_lt _ (by positivity)

/-- The signal of an enabled timer is high in the second half of the period. -/
theorem Timer.signal_iff {t : Timer} (ht : t.tac.getLsbD 2 = true) : t.signal = true ↔ 2 ^ t.selectedBit ≤ t.phase := by
  have hlow : t.sysclk.toNat % 2 ^ t.selectedBit < 2 ^ t.selectedBit := Nat.mod_lt _ (by positivity)
  rw [Timer.signal, ht, Bool.true_and, BitVec.getLsbD, Nat.testBit_eq_decide_div_mod_eq, decide_eq_true_eq, Timer.phase,
    pow_succ, Nat.mod_mul]
  rcases Nat.mod_two_eq_zero_or_one (t.sysclk.toNat / 2 ^ t.selectedBit) with h | h <;> rw [h]
  · simpa using hlow
  · simp

theorem Timer.phase_quiet (n : Nat) (t : Timer) :
    (t.quiet n).phase = (t.phase + 4 * n) % 2 ^ (t.selectedBit + 1) := by
  have hdvd : 2 ^ (t.selectedBit + 1) ∣ 2 ^ 16 := pow_dvd_pow 2 t.selectedBit_bounds.2
  show (t.sysclk + BitVec.ofNat 16 (4 * n)).toNat % 2 ^ (t.selectedBit + 1) = _
  rw [BitVec.toNat_add, BitVec.toNat_ofNat, Nat.add_mod_mod, Nat.mod_mod_of_dvd _ hdvd, Timer.phase, Nat.mod_add_mod]

theorem Timer.quiet_quiet (m n : Nat) (t : Timer) : (t.quiet m).quiet n = t.quiet (m + n) := by
  simp only [Timer.quiet, Nat.mul_add, BitVec.ofNat_add, BitVec.add_assoc]

theorem Timer.tick_eq (t : Timer) : t.tick = Timer.countEdge t.signal (t.quiet 1) := rfl

/-- Before the end of the period a tick counts nothing. -/
theorem Timer.tick_of_lt {t : Timer} (ht : t.tac.getLsbD 2 = true) (h : t.phase + 4 < 2 ^ (t.selectedBit + 1)) :
    t.tick = (t.quiet 1, false) := by
  have hphase : (t.quiet 1).phase = t.phase + 4 := (t.phase_quiet 1).trans (Nat.mod_eq_of_lt h)
  have hstays : t.signal = true → (t.quiet 1).signal = true := fun hs =>
    (Timer.signal_iff (t := t.quiet 1) ht).mpr (hphase ▸ ((Timer.signal_iff ht).mp hs).trans (Nat.le_add_right _ 4))
  rw [Timer.tick_eq, Timer.countEdge, if_neg]
  simpa using hstays

/-- The tick that ends the period counts. -/
theorem Timer.tick_of_ge {t : Timer} (ht : t.tac.getLsbD 2 = true) (h : 2 ^ (t.selectedBit + 1) ≤ t.phase + 4) :
    t.tick = (t.quiet 1).inc := by
  have hlt := t.phase_lt
  have hhalf : 2 ^ (t.selectedBit + 1) = 2 * 2 ^ t.selectedBit := by rw [pow_succ, Nat.mul_comm]
  have h8 : 2 ^ 3 ≤ 2 ^ t.selectedBit := Nat.pow_le_pow_right (by decide) t.selectedBit_bounds.1
  have hphase : (t.quiet 1).phase = t.phase + 4 - 2 ^ (t.selectedBit + 1) := by
    rw [Timer.phase_quiet, Nat.mod_eq_sub_mod h, Nat.mod_eq_of_lt (by omega)]
  have hhigh : t.signal = true := (Timer.signal_iff ht).mpr (by omega)
  have hlow : ¬ (t.quiet 1).signal = true := fun hs => by
    have : 2 ^ t.selectedBit ≤ (t.quiet 1).phase := (Timer.signal_iff (t := t.quiet 1) ht).mp hs
    omega
  rw [Timer.tick_eq, Timer.countEdge, if_pos (by simp [hhigh, hlow])]

theorem Timer.run_of_lt {n : Nat} {t : Timer} (ht : t.tac.getLsbD 2 = true)
    (h : t.phase + 4 * n < 2 ^ (t.selectedBit + 1)) : Timer.run n t = (t.quiet n, false) := by
  induction n generalizing t with
  | zero => simp [Timer.run, Timer.quiet]
  | succ n ih =>
    have h1 : t.phase + 4 < 2 ^ (t.selectedBit + 1) := by omega
    have hphase : (t.quiet 1).phase = t.phase + 4 := (t.phase_quiet 1).trans (Nat.mod_eq_of_lt h1)
    have hrest : Timer.run n (t.quiet 1) = ((t.quiet 1).quiet n, false) :=
      ih (t := t.quiet 1) ht (by rw [hphase]; show t.phase + 4 + 4 * n < 2 ^ (t.selectedBit + 1); omega)
    rw [Timer.run, Timer.tick_of_lt ht h1]
    simp only [hrest, Timer.quiet_quiet, Nat.add_comm 1 n, Bool.or_false]

theorem Timer.run_add_overflow (m n : Nat) (t : Timer) :
    (Timer.run (m + n) t).2 = ((Timer.run m t).2 || (Timer.run n (Timer.run m t).1).2) := by
  induction m generalizing t with
  | zero => simp [Timer.run]
  | succ m ih =>
    rw [Nat.add_right_comm]
    simp only [Timer.run, ih, Bool.or_assoc]

theorem Timer.inc_config (t : Timer) :
    t.inc.1.tac = t.tac ∧ t.inc.1.selectedBit = t.selectedBit ∧ t.inc.1.phase = t.phase := by
  unfold Timer.inc
  split <;> exact ⟨rfl, rfl, rfl⟩

/-- Counting TIMA and advancing `sysclk` do not see each other. -/
theorem Timer.inc_quiet (n : Nat) (t : Timer) : (t.quiet n).inc = (t.inc.1.quiet n, t.inc.2) := by
  unfold Timer.inc
  show (if t.tima = 0xFF then _ else _) = _
  split <;> rfl

theorem Timer.inc_tima (t : Timer) :
    t.inc.1.tima = (if t.tima = 0xFF then t.tma else t.tima + 1) ∧ (t.inc.2 = true ↔ t.tima = 0xFF) := by
  unfold Timer.inc
  split <;> simp_all

/-- In one period an enabled timer counts once: `k` ticks before the selected bit falls, and `j` after. -/
theorem Timer.run_period {t : Timer} (ht : t.tac.getLsbD 2 = true) :
    let r := Timer.run (Timer.period (t.tac.extractLsb' 0 2)) t
    r.1.tima = t.inc.1.tima ∧ r.2 = t.inc.2 := by
  have hperiod := t.period_eq
  have hlt := t.phase_lt
  obtain ⟨htac, hbit, hinc⟩ := t.inc_config
  intro r
  obtain ⟨k, j, hn, hbefore, hfalls⟩ : ∃ k j, Timer.period (t.tac.extractLsb' 0 2) = k + (j + 1) ∧
      t.phase + 4 * k < 2 ^ (t.selectedBit + 1) ∧ 2 ^ (t.selectedBit + 1) ≤ t.phase + 4 * k + 4 := by
    generalize Timer.period (t.tac.extractLsb' 0 2) = n at hperiod
    exact ⟨(4 * n - 1 - t.phase) / 4, n - 1 - (4 * n - 1 - t.phase) / 4, by omega, by omega, by omega⟩
  have hphase : (t.quiet k).phase = t.phase + 4 * k := (t.phase_quiet k).trans (Nat.mod_eq_of_lt hbefore)
  have htick : (t.quiet k).tick = (t.inc.1.quiet (k + 1), t.inc.2) := by
    rw [Timer.tick_of_ge (t := t.quiet k) ht (hphase ▸ hfalls), Timer.quiet_quiet, Timer.inc_quiet]
  have hafter : (t.inc.1.quiet (k + 1)).phase = t.phase + 4 * k + 4 - 2 ^ (t.selectedBit + 1) := by
    rw [Timer.phase_quiet, hinc, hbit, Nat.mul_succ, ← Nat.add_assoc, Nat.mod_eq_sub_mod hfalls,
      Nat.mod_eq_of_lt (by omega)]
  have hrest : Timer.run j (t.inc.1.quiet (k + 1)) = ((t.inc.1.quiet (k + 1)).quiet j, false) := by
    refine Timer.run_of_lt (by rw [← ht, ← htac]; rfl) ?_
    show _ < 2 ^ (t.inc.1.selectedBit + 1)
    rw [hafter, hbit]
    omega
  have hrun : Timer.run k t = (t.quiet k, false) := Timer.run_of_lt ht hbefore
  show (Timer.run _ t).1.tima = _ ∧ (Timer.run _ t).2 = _
  rw [hn, Timer.run_add, Timer.run_add_overflow, hrun]
  simp only [Timer.run, htick, hrest, Bool.or_false, Bool.false_or]
  exact ⟨rfl, trivial⟩

end Sys2Proof.Machine
end

section
/-! SUPPORT. F as a byte, the bus of a launch, and its register record (R43, R95, R96). -/

namespace Sys2Proof.Machine

open Sys2Proof

theorem Flags.toByte_bits (f : Flags) : f.toByte.getLsbD 7 = f.z ∧ f.toByte.getLsbD 6 = f.n ∧
    f.toByte.getLsbD 5 = f.h ∧ f.toByte.getLsbD 4 = f.c ∧ f.toByte &&& 0x0F = 0 := by
  rcases f with ⟨_ | _, _ | _, _ | _, _ | _⟩ <;> decide

theorem Flags.toByte_ofByte (v : Byte) : (Flags.ofByte v).toByte = v &&& 0xF0 := by
  revert v
  decide

/-- A store's byte after a launch. -/
theorem busValue_launch (rs : ResetState) (params : Params) (rom init : Nat → Byte) {a : Word}
    (ha : isStore a.toNat = true) :
    (State.powerOn rs params (Memory.launch rom init)).busValue a =
      if isRom a.toNat then rom a.toNat else init a.toNat := by
  have hlt : a.toNat < 0 + 0x10000 := by have := a.isLt; omega
  rw [busValue_of_store _ ha]
  simp only [State.powerOn, Memory.launch]
  rw [Memory.read_image, if_pos ⟨Nat.zero_le _, hlt, ha⟩]

theorem isRom_of_isRam {a : Nat} (h : isRam a = true) : isRom a = false := by
  simp only [isRam, isRom, Bool.or_eq_true, decide_eq_true_eq, decide_eq_false_iff_not] at h ⊢
  omega

/-- The default register record (R95). -/
theorem defaultRegs_values : let g := ResetState.default.regs
    g.get .a = 0x01 ∧ g.flags.toByte = 0xB0 ∧ g.getPair .bc = 0x0013 ∧ g.getPair .de = 0x00D8 ∧
      g.getPair .hl = 0x014D ∧ g.sp = 0xFFFE ∧ g.pc = 0x0100 := by
  decide

end Sys2Proof.Machine
end

section
/-! The statements about the state: registers, latches, the timer, the invariant, power-on. -/

namespace Sys2Proof.Proofs

open Sys2Proof Sys2Proof.Machine

/-- Settles O30: the bus cycles and every form keep the invariant and record no fault of a PPU check. -/
theorem everyStepKeepsInvariant : Obligations.EveryStepKeepsInvariant := by
  unfold Obligations.EveryStepKeepsInvariant
  intro s t hs hf h
  obtain ⟨hinv, hcheck⟩ := step_safe (hs.safe hf) h
  exact ⟨hinv, fun _ _ _ _ _ hv => Bool.noConfusion (hcheck _ hv)⟩

/-- Settles O36: each write of each form is one that its rule names. -/
theorem registerFileFrame : Obligations.RegisterFileFrame := by
  unfold Obligations.RegisterFileFrame
  intro i s t hi h
  have hf : i.form.LeavesRegs s.regs t.regs :=
    exec_keeps hi (leavesRegs_keeps i.form s) (fun _ _ => trivial) (.refl _ _) h
  exact ⟨hf.reg, hf.sp, hf.pc, hf.flags.z, hf.flags.n, hf.flags.h, hf.flags.c⟩

/-- Settles O38: the latches by the walk over the forms, the devices by the relation `OnlyTicks` along it. -/
theorem controlAndDeviceFrame : Obligations.ControlAndDeviceFrame := by
  unfold Obligations.ControlAndDeviceFrame
  intro i s t hi h
  obtain ⟨⟨hime, hei, hhalt⟩, hopPC, hparams⟩ := exec_leavesControl hi h
  refine ⟨hime, hei, hhalt, hopPC, hparams, fun hst => ?_⟩
  obtain ⟨-, htimer, ⟨hlcdc, hscy, hscx, hbgp⟩, hkept, hothers, haudio, hwrites⟩ :=
    exec_keeps hi (onlyTicks_keeps i.form s) hst (.refl s) h
  obtain ⟨htma, htac, hclk⟩ := Timer.run_config (t.cycles - s.cycles) s.timer
  rw [← htimer] at htma htac hclk
  exact ⟨htma, htac, hclk, htimer, hkept, hothers, hlcdc, hscy, hscx, hbgp, haudio, hwrites⟩

/-- Settles O13: a tick and a fetch leave IME alone, and so does every instruction but DI and RETI. -/
theorem imeChangesOnlyAsListed : Obligations.ImeChangesOnlyAsListed := by
  unfold Obligations.ImeChangesOnlyAsListed
  intro s t h hne
  have hfetch : (fetchInstr (wake (beginStep s))).state.ime = s.ime := fetchInstr_ime _
  obtain ⟨-, ⟨ha, -⟩ | ⟨-, rfl⟩ | ⟨-, hu⟩ | ⟨-, i, u, v, hi, hv, rfl⟩⟩ := step_cases h
  · exact .inl ha
  · exact absurd (ticked_ime _) hne
  · rw [hu] at hfetch
    exact absurd hfetch hne
  · rw [hi] at hfetch
    by_cases hei : s.eiPending = true
    · exact .inr (.inl hei)
    · refine .inr (.inr ⟨i, u, hi, ?_⟩)
      rw [eq_false_of_ne_true hei, applyDelayedEi_false] at hne
      have hlatches := (exec_leavesControl (fetchInstr_isWhole hi) hv).latches
      by_contra hother
      push Not at hother
      exact hne ((hlatches.ime (fun e => hother.1 (form_eq_di e)) fun e => hother.2 (form_eq_reti e)).trans hfetch)

/-- Settles O23: the selected bit falls in exactly one tick of a period, and no other tick counts. -/
theorem timerCountsOncePerPeriod : Obligations.TimerCountsOncePerPeriod := by
  unfold Obligations.TimerCountsOncePerPeriod
  intro t ht n
  obtain ⟨htima, hover⟩ := Timer.run_period ht
  refine ⟨htima.trans t.inc_tima.1, ?_, ?_⟩
  · rw [hover]
    exact t.inc_tima.2
  · rw [(Timer.run_config n t).2.2, BitVec.ofNat_mul]
    rfl

/-- Settles O6: the fetch reads each byte of the instruction from its store, in a tick of its own. -/
theorem stepRunsTheInstructionInMemory : Obligations.StepRunsTheInstructionInMemory := by
  unfold Obligations.StepRunsTheInstructionInMemory
  intro s i rest hs hex hbug hdecode hstores
  have hwake : (wake (beginStep s)).Inv := ⟨hs.mem_wf, hs.mem_stores, hs.ppu⟩
  rw [step_of_executes hex, executeInstruction, fetchInstr_of_stores hwake hbug hdecode hstores]
  rfl

/-- Settles O10: `step` answers the recorded fault before it does anything. -/
theorem faultEndsTheRun : Obligations.FaultEndsTheRun := by
  unfold Obligations.FaultEndsTheRun
  intro s f hf
  have hstep : step s = .fault f := by simp only [step, hf]
  exact ⟨hstep, by simp only [hostStep, hstep]⟩

/-- Settles O16: the pairs by the definition of their halves, F by its four flags. -/
theorem registerFileLayout : Obligations.RegisterFileLayout := by
  unfold Obligations.RegisterFileLayout
  refine ⟨Flags.toByte_bits, Flags.toByte_ofByte, fun s v => ?_⟩
  exact ⟨⟨rfl, rfl, rfl⟩, ⟨rfl, rfl, rfl⟩, ⟨rfl, rfl, rfl⟩, ⟨rfl, Flags.toByte_ofByte _, rfl⟩⟩

/-- Settles O31: the CPU and the video unit by `State.powerOn`, the bus reads by the default map, the stores by the image
of the launch. -/
theorem powerOnValues : Obligations.PowerOnValues := by
  unfold Obligations.PowerOnValues
  intro params rom init hmap s
  have bus {a : Word} {r : BusReg} (hr : lookupReg Config.regMap a.toNat = some r) : s.busValue a = readReg r a s :=
    State.busValue_of_defaultMap hmap hr
  have bitmap (row col : Nat) (hr : row < 144) (hc : col < 160) : (s.ppu.bitmap[row])[col] = 0 := by
    show ((Vector.replicate 144 (Vector.replicate 160 0) : Bitmap)[row])[col] = 0
    simp
  obtain ⟨ha, hf, hbc, hde, hhl, hsp, hpc⟩ := defaultRegs_values
  have intFlag : s.busValue 0xFF0F = 0xE1 :=
    (bus (r := .intFlag) rfl).trans (show 0xE0#8 ||| (0b00001#5).setWidth 8 = 0xE1#8 by decide)
  have div : s.busValue 0xFF04 = 0xAB :=
    (bus (r := .div) rfl).trans (show (0xABCC#16).extractLsb' 8 8 = 0xAB#8 by decide)
  have tac : s.busValue 0xFF07 = 0xF8 :=
    (bus (r := .tac) rfl).trans (show 0xF8#8 ||| (0b000#3).setWidth 8 = 0xF8#8 by decide)
  refine ⟨ha, hf, hbc, hde, hhl, hsp, hpc, rfl, rfl, rfl, rfl, rfl, rfl, rfl, intFlag, rfl, div, bus (r := .tima) rfl,
    bus (r := .tma) rfl, tac, bus (r := .lcdc) rfl, bus (r := .scy) rfl, bus (r := .scx) rfl, bus (r := .ly) rfl,
    bus (r := .bgp) rfl, rfl, rfl, rfl, rfl, rfl, rfl, rfl, rfl, rfl, bitmap, fun a ha => ?_, fun a ha => ?_⟩
  · rw [busValue_launch _ _ _ _ (by simp [isStore, ha]), if_pos ha]
  · rw [busValue_launch _ _ _ _ (by simp [isStore, ha]), if_neg (by simp [isRom_of_isRam ha])]

end Sys2Proof.Proofs
end

section
/-! SUPPORT. What a tick leaves, failed check or not, and each row of the address map on the bus (R101 to R114). -/

namespace Sys2Proof.Machine

open Sys2Proof

/-! ## The tick -/

/-- The parts that a tick writes (R101). -/
theorem State.tickEnd_eq (s : State) : s.tickEnd = { s with
    cycles := s.cycles + 1
    timer := s.timer.tick.1
    audio := { s.audio with ticks := s.audio.ticks + 1 }
    ppu := (s.ppu.tick s.mem).ppu
    intFlag := s.intFlag ||| (if s.timer.tick.2 then 0b00100 else 0) |||
      (if (s.ppu.tick s.mem).vblank then 0b00001 else 0) } := by
  simp only [State.tickEnd, applyPpu, audioTick, timerTick, applyTimer, requestTimer, requestVBlank]
  by_cases ht : s.timer.tick.2 = true <;> by_cases hv : (s.ppu.tick s.mem).vblank = true <;> simp [ht, hv]

theorem busTick_of_noFault {s : State} (h : (s.ppu.tick s.mem).fault = none) : busTick s = .ok () s.tickEnd := by
  simp [busTick, ppuTick, State.tickEnd, timerTick, h]

/-- A failed check of the video unit stops the tick, which has done its work (R503, R572). -/
theorem busTick_of_fault {s : State} {f : Fault} (h : (s.ppu.tick s.mem).fault = some f) :
    busTick s = .stop { s.tickEnd with fault := some f } := by
  simp [busTick, ppuTick, raise, State.tickEnd, timerTick, h]

/-- A read shows the audio device the access, and does nothing else (R118). -/
theorem noteRead_withAudio (s : State) (a : Word) : { s.noteRead a with audio := s.audio } = s := by
  unfold State.noteRead
  split <;> rfl

/-! ## Accesses by the row of the address -/

theorem decode_of_accessible {s : State} {a : Word} (v : Byte) (h : s.accessible a = true) :
    decodeRead a s = .ok (s.busValue a) (s.noteRead a) ∧ decodeWrite a v s = .ok () (s.busStore a v) :=
  ⟨if_pos h, if_pos h⟩

theorem decode_of_forbidden {s : State} {a : Word} (v : Byte) (h : s.accessible a = false) :
    decodeRead a s = .stop { s with fault := some (.decodeFault a .read s.opPC) } ∧
      decodeWrite a v s = .stop { s with fault := some (.decodeFault a .write s.opPC) } :=
  ⟨if_neg (by simp [h]), if_neg (by simp [h])⟩

theorem accessible_of_ne_regBank (s : State) {a : Word} (h : regionOf a ≠ .regBank) : s.accessible a = true := by
  unfold State.accessible
  split
  · next hc => exact absurd hc h
  · rfl

theorem noteRead_of_ne_regBank (s : State) {a : Word} (h : regionOf a ≠ .regBank) : s.noteRead a = s := by
  unfold State.noteRead
  split
  · next hc _ => exact absurd hc h
  · rfl

/-- Outside the register bank every access is allowed, and a read changes nothing (R110, R118). -/
theorem decode_of_ne_regBank (s : State) {a : Word} (v : Byte) (h : regionOf a ≠ .regBank) :
    decodeRead a s = .ok (s.busValue a) s ∧ decodeWrite a v s = .ok () (s.busStore a v) := by
  obtain ⟨hread, hwrite⟩ := decode_of_accessible v (accessible_of_ne_regBank s h)
  exact ⟨by rw [hread, noteRead_of_ne_regBank s h], hwrite⟩

theorem regionOf_eq_rom_iff {a : Word} : regionOf a = .rom ↔ isRom a.toNat = true := by
  simp only [isRom, decide_eq_true_eq]
  unfold regionOf
  dsimp only
  split_ifs <;> simp <;> omega

theorem busStore_of_rom (s : State) {a : Word} (v : Byte) (h : isRom a.toNat = true) :
    s.busStore a v = if s.params.testMode then storeByte a v s else s := by
  simp only [State.busStore, regionOf_eq_rom_iff.mpr h]

theorem busStore_of_ram (s : State) {a : Word} (v : Byte) (h : isRam a.toNat = true) :
    s.busStore a v = storeByte a v s := by
  have hstore : isStore a.toNat = true := by simp [isStore, h]
  unfold State.busStore
  rcases regionOf_of_store hstore with hr | hr | hr | hr | hr
  · rw [regionOf_eq_rom_iff, isRom_of_isRam h] at hr
    cases hr
  all_goals rw [hr]

theorem decodeRead_of_store (s : State) {a : Word} (h : isStore a.toNat = true) :
    decodeRead a s = .ok (s.mem.read a.toNat) s := by
  rw [(decode_of_accessible 0 (accessible_of_store s h)).1, busValue_of_store s h, noteRead_of_store s a h]

/-- A row without a byte of its own reads 0xFF and ignores a write (R105, R107). -/
theorem decode_of_noByte (s : State) {a : Word} (v : Byte) (h : regionOf a = .openBus ∨ regionOf a = .prohibited) :
    decodeRead a s = .ok 0xFF s ∧ decodeWrite a v s = .ok () s := by
  obtain ⟨hread, hwrite⟩ := decode_of_ne_regBank s (a := a) v (by rcases h with h | h <;> simp [h])
  rw [hread, hwrite]
  rcases h with h | h <;> simp only [State.busValue, State.busStore, h, and_self]

theorem regionOf_eq_openBus {a : Word} (hlo : 0xA000 ≤ a.toNat) (hhi : a.toNat ≤ 0xBFFF) : regionOf a = .openBus := by
  unfold regionOf
  dsimp only
  iterate 2 rw [if_neg (by omega)]
  rw [if_pos hhi]

theorem regionOf_eq_prohibited {a : Word}
    (h : 0xE000 ≤ a.toNat ∧ a.toNat ≤ 0xFDFF ∨ 0xFEA0 ≤ a.toNat ∧ a.toNat ≤ 0xFEFF) : regionOf a = .prohibited := by
  unfold regionOf
  dsimp only
  rcases h with ⟨hlo, hhi⟩ | ⟨hlo, hhi⟩
  · iterate 4 rw [if_neg (by omega)]
    rw [if_pos hhi]
  · iterate 6 rw [if_neg (by omega)]
    rw [if_pos hhi]

theorem regionOf_eq_ie_iff {a : Word} : regionOf a = .ie ↔ a = 0xFFFF := by
  have hlt := a.isLt
  rw [← BitVec.toNat_inj]
  show _ ↔ a.toNat = 0xFFFF
  unfold regionOf
  dsimp only
  split_ifs <;> simp <;> omega

end Sys2Proof.Machine
end

section
/-! SUPPORT. The register bank on the bus (R109, R110), and what a write of any row leaves of memory and IE (R119). -/

namespace Sys2Proof.Machine

open Sys2Proof

/-! ## Assigned and unassigned registers -/

theorem decode_of_register {s : State} {a : Word} {r : BusReg} (v : Byte) (ha : regionOf a = .regBank)
    (hr : s.regAt a = some r) :
    decodeRead a s = .ok (readReg r a s) (s.noteRead a) ∧ decodeWrite a v s = .ok () (writeReg r a v s) := by
  have hacc : s.accessible a = true := by simp only [State.accessible, ha, hr, Option.isSome_some]
  obtain ⟨hread, hwrite⟩ := decode_of_accessible v hacc
  rw [hread, hwrite, State.busValue_of_regAt ha hr]
  simp only [State.busStore, ha, hr, and_self]

/-- The audio device alone is shown a read (R118). -/
theorem noteRead_of_regAt {s : State} {a : Word} {r : BusReg} (ha : regionOf a = .regBank) (hr : s.regAt a = some r) :
    s.noteRead a = if r = .audio then audioAccess a none s else s := by
  cases r <;> simp only [State.noteRead, ha, hr] <;> rfl

/-- With the default map, what an access to an assigned register does (R109). -/
theorem decode_of_defaultMap {s : State} {a : Word} {r : BusReg} (v : Byte) (hmap : s.params.regMap = Config.regMap)
    (hr : lookupReg Config.regMap a.toNat = some r) :
    decodeRead a s = .ok (readReg r a s) (if r = .audio then audioAccess a none s else s) ∧
      decodeWrite a v s = .ok () (writeReg r a v s) := by
  have ha : regionOf a = .regBank := regionOf_of_defaultMap hr
  have hreg : s.regAt a = some r := by rw [State.regAt, hmap, hr]
  rw [← noteRead_of_regAt ha hreg]
  exact decode_of_register v ha hreg

theorem lookupReg_audio {n : Nat} (h : 0xFF10 ≤ n ∧ n ≤ 0xFF26 ∨ 0xFF30 ≤ n ∧ n ≤ 0xFF3F) :
    lookupReg Config.regMap n = some .audio := by
  simp only [Config.regMap, lookupReg]
  iterate 5 rw [if_neg (by omega)]
  rcases h with h | h
  · rw [if_pos h]
  · rw [if_neg (by omega), if_pos h]

theorem lookupReg_eq_none_iff {map : List RegRow} {n : Nat} :
    lookupReg map n = none ↔ ∀ row ∈ map, ¬ (row.lo ≤ n ∧ n ≤ row.hi) := by
  induction map with
  | nil => simp [lookupReg]
  | cons row rest ih =>
    unfold lookupReg
    split
    · next h => simp [h]
    · next h => rw [ih, List.forall_mem_cons, and_iff_right h]

theorem regionOf_eq_regBank_iff {a : Word} : regionOf a = .regBank ↔ 0xFF00 ≤ a.toNat ∧ a.toNat ≤ 0xFF7F := by
  unfold regionOf
  dsimp only
  split_ifs <;> simp <;> omega

/-- The addresses that fault are those of the register bank that no row of the map holds (R110). -/
theorem accessible_eq_false_iff (s : State) (a : Word) : s.accessible a = false ↔
    0xFF00 ≤ a.toNat ∧ a.toNat ≤ 0xFF7F ∧ ∀ row ∈ s.params.regMap, ¬ (row.lo ≤ a.toNat ∧ a.toNat ≤ row.hi) := by
  rw [← and_assoc, ← regionOf_eq_regBank_iff, ← lookupReg_eq_none_iff]
  by_cases ha : regionOf a = .regBank
  · simp only [State.accessible, State.regAt, ha, true_and, Option.isSome_eq_false_iff, Option.isNone_iff_eq_none]
  · simp [accessible_of_ne_regBank s ha, ha]

/-! ## Writes -/

/-- A write of any row stores at most its own byte, and one in the ROM window only where TEST_MODE is true (R103). -/
theorem busStore_mem (s : State) (a : Word) (v : Byte) : (s.busStore a v).mem = s.mem ∨
    (s.busStore a v).mem = s.mem.write a.toNat v ∧ (isRom a.toNat = true → s.params.testMode = true) := by
  have hrom : regionOf a = .rom ↔ isRom a.toNat = true := regionOf_eq_rom_iff
  unfold State.busStore
  split
  · split
    · next h => exact .inr ⟨rfl, fun _ => h⟩
    · exact .inl rfl
  case h_2 h | h_4 h | h_6 h | h_8 h => exact .inr ⟨rfl, fun hr => by rw [← hrom, h] at hr; cases hr⟩
  case h_3 | h_5 | h_9 => exact .inl rfl
  case h_7 =>
    left
    split
    · next r _ => cases r <;> simp [writeReg]
    · rfl

/-- IE is the byte at 0xFFFF and no other (R112). -/
theorem busStore_ie (s : State) {a : Word} (v : Byte) (h : a ≠ 0xFFFF) : (s.busStore a v).ie = s.ie := by
  unfold State.busStore
  split
  case h_9 hr => exact absurd (regionOf_eq_ie_iff.mp hr) h
  case h_1 => split <;> rfl
  case h_7 =>
    split
    · next r _ => cases r <;> simp [writeReg]
    · rfl
  all_goals rfl

/-- Another address reads, after a byte is stored, as before (R119). -/
theorem busValue_storeByte_of_ne {s : State} {a b : Word} (v : Byte) (hm : s.mem.wf = true) (h : b ≠ a) :
    (storeByte a v s).busValue b = s.busValue b := by
  have hmem : (storeByte a v s).mem.read b.toNat = s.mem.read b.toNat := by
    rw [storeByte, Memory.read_write hm, if_neg fun he => h (BitVec.eq_of_toNat_eq he)]
  have hreg : (storeByte a v s).regAt b = s.regAt b := rfl
  unfold State.busValue
  rw [hmem, hreg]
  rfl

end Sys2Proof.Machine
end

section
/-! SUPPORT. What holds through a whole step, memory through a step and an instruction, and the fault of an instruction's
first access. -/

namespace Sys2Proof.Machine

open Sys2Proof

/-! ## What a step keeps -/

/-- `P` survives every part of a step: its bus cycles, any writes of registers and latches, and the changes at the start
of a step and of a dispatch. -/
structure StepKeeps (P : State → Prop) : Prop extends BusKeeps (fun _ => True) P where
  regs    : ∀ (s : State) g, P s → P { s with regs := g }
  latches : ∀ s l, P s → P (s.setLatches l)
  start   : ∀ s, P s → P (beginStep s)
  accept  : ∀ s, P s → P (acceptInterrupt s)

/-- What survives every part of a step holds in the state in which it ends, faulting or not. -/
theorem StepKeeps.step {P : State → Prop} (hP : StepKeeps P) {s t : State} (hs : P s) (h : step s = .next t) : P t := by
  have setSP (s : State) (v : Word) (h : P s) : P (s.setSP v) := hP.regs s _ h
  have setPC (s : State) (v : Word) (h : P s) : P (s.setPC v) := hP.regs s _ h
  have fetched : P (fetchInstr (wake (beginStep s))).state :=
    hP.fetchInstr setPC (fun u hu => hP.latches u ⟨u.ime, u.eiPending, u.halted, false⟩ hu)
      (hP.latches _ ⟨s.ime, s.eiPending, false, s.haltBug⟩ (hP.start s hs))
  obtain ⟨-, ⟨-, rfl⟩ | ⟨-, rfl⟩ | ⟨-, hu⟩ | ⟨-, i, u, v, hi, hv, rfl⟩⟩ := step_cases h
  · exact hP.serviceInterrupt setSP setPC (fun _ _ => trivial) (hP.accept _ (hP.start s hs))
  · exact hP.tick _ (hP.start s hs)
  · rwa [hu] at fetched
  · rw [hi] at fetched
    have hform : i.form.Keeps (fun _ => True) P :=
      { toBusKeeps := hP.toBusKeeps, regs := fun s g _ => hP.regs s g, latches := fun s l _ => hP.latches s l }
    have hPv : P v := exec_keeps (fetchInstr_isWhole hi) hform (fun _ _ => trivial) fetched hv
    unfold applyDelayedEi
    split
    · exact hP.latches v ⟨true, false, v.halted, v.haltBug⟩ hPv
    · exact hPv

/-- `t` has the ROM window of `s`, and memory is still canonical. -/
structure SameRom (s t : State) : Prop where
  wf   : t.mem.wf = true
  read : ∀ a ≤ 0x7FFF, t.mem.read a = s.mem.read a

/-- `t` has the launch parameters of `s`, and its ROM window where that cannot be written (R103). -/
structure SameLaunch (s t : State) : Prop where
  params : t.params = s.params
  rom    : s.mem.wf = true → s.params.testMode = false → SameRom s t

theorem SameRom.busStore {s t : State} (h : SameRom s t) (htest : t.params.testMode = false) (a : Word) (v : Byte) :
    SameRom s (t.busStore a v) := by
  rcases busStore_mem t a v with hmem | ⟨hmem, hrom⟩
  · exact ⟨hmem ▸ h.wf, hmem ▸ h.read⟩
  · refine ⟨by rw [hmem]; exact Memory.wf_write _ v h.wf, fun b hb => ?_⟩
    have hne : b ≠ a.toNat := by
      rintro rfl
      simp [hrom (decide_eq_true hb)] at htest
    rw [hmem, Memory.read_write h.wf, if_neg hne]
    exact h.read b hb

theorem SameLaunch.of_eq {s t u : State} (h : SameLaunch s t) (hp : u.params = t.params) (hm : u.mem = t.mem) :
    SameLaunch s u :=
  ⟨hp.trans h.params, fun hwf ht => ⟨hm ▸ (h.rom hwf ht).wf, hm ▸ (h.rom hwf ht).read⟩⟩

theorem sameLaunch_keeps (s : State) : StepKeeps (SameLaunch s) where
  tick t h := h.of_eq (ticked_params t) (ticked_mem t)
  read t a h := h.of_eq (noteRead_params t a) (noteRead_mem t a)
  write t a v _ h :=
    ⟨(busStore_params t a v).trans h.params, fun hm ht => (h.rom hm ht).busStore (by rw [h.params, ht]) a v⟩
  fault _ _ _ h := h.of_eq rfl rfl
  regs _ _ h := h.of_eq rfl rfl
  latches _ _ h := h.of_eq rfl rfl
  start _ h := h.of_eq rfl rfl
  accept _ h := h.of_eq rfl rfl

/-! ## Memory through an instruction -/

/-- From `s` to `t` memory stays canonical, and no byte changes, of memory or IE, outside the addresses in `W`. -/
structure LeavesBytes (W : Word → Prop) (s t : State) : Prop where
  wf   : t.mem.wf = true
  read : ∀ a : Word, ¬ W a → t.mem.read a.toNat = s.mem.read a.toNat
  ie   : ¬ W 0xFFFF → t.ie = s.ie

theorem LeavesBytes.busStore {W : Word → Prop} {s t : State} (h : LeavesBytes W s t) {a : Word} (v : Byte) (ha : W a) :
    LeavesBytes W s (t.busStore a v) := by
  have hie : ¬ W 0xFFFF → (t.busStore a v).ie = s.ie := fun hn =>
    (busStore_ie t v fun he => hn (he ▸ ha)).trans (h.ie hn)
  rcases busStore_mem t a v with hmem | ⟨hmem, -⟩
  · exact ⟨hmem ▸ h.wf, hmem ▸ h.read, hie⟩
  · refine ⟨by rw [hmem]; exact Memory.wf_write _ v h.wf, fun b hb => ?_, hie⟩
    have hne : b.toNat ≠ a.toNat := fun he => hb (BitVec.eq_of_toNat_eq he ▸ ha)
    rw [hmem, Memory.read_write h.wf, if_neg hne]
    exact h.read b hb

theorem LeavesBytes.of_eq {W : Word → Prop} {s t u : State} (h : LeavesBytes W s t) (hm : u.mem = t.mem)
    (hie : u.ie = t.ie) : LeavesBytes W s u :=
  ⟨hm ▸ h.wf, hm ▸ h.read, fun hn => hie.trans (h.ie hn)⟩

theorem leavesBytes_keeps (f : Form) (W : Word → Prop) (s : State) : f.Keeps W (LeavesBytes W s) where
  tick t h := h.of_eq (ticked_mem t) (ticked_ie t)
  read t a h := h.of_eq (noteRead_mem t a) (noteRead_ie t a)
  write _ _ v ha h := h.busStore v ha
  fault _ _ _ h := h.of_eq rfl rfl
  regs _ _ _ h := h.of_eq rfl rfl
  latches _ _ _ h := h.of_eq rfl rfl

/-! ## A forbidden first access -/

/-- `t` records the decode fault of an access of kind `k` to `a`, and has every register of `s` but SP, its flags, PC,
memory, IE and IME. -/
structure FaultedAt (a : Word) (k : Access) (s t : State) : Prop where
  fault : t.fault = some (.decodeFault a k s.opPC)
  regs  : t.regs = { s.regs with sp := t.sp }
  mem   : t.mem = s.mem
  ie    : t.ie = s.ie
  ime   : t.ime = s.ime

/-- The operation stops at a forbidden access to `a`, its first. -/
def Res.FaultsAt {α : Type} (r : Res α) (a : Word) (k : Access) (s : State) : Prop :=
  ∃ t, r = .stop t ∧ FaultedAt a k s t

theorem Res.FaultsAt.bind {α β : Type} {r : Res α} {a : Word} {k : Access} {s : State} (h : r.FaultsAt a k s)
    (g : α → State → Res β) : (r.bind g).FaultsAt a k s := by
  obtain ⟨t, rfl, ht⟩ := h
  exact ⟨t, rfl, ht⟩

theorem faultedAt_ticked (a : Word) (k : Access) (s : State) :
    FaultedAt a k s { s.ticked with fault := some (.decodeFault a k s.opPC) } :=
  ⟨rfl, by simp [State.sp], ticked_mem s, ticked_ie s, ticked_ime s⟩

section
variable {s : State} {a : Word} (hs : s.Inv)
include hs

theorem memRead_faultsAt (ha : s.accessible a = false) : (memRead a s).FaultsAt a .read s :=
  ⟨_, memRead_stop hs ha, faultedAt_ticked a .read s⟩

theorem memWrite_faultsAt (v : Byte) (ha : s.accessible a = false) : (memWrite a v s).FaultsAt a .write s :=
  ⟨_, memWrite_stop hs ha v, faultedAt_ticked a .write s⟩

/-- The stack's first byte: SP has moved (R260). -/
theorem pushWord_faultsAt (v : Word) (ha : s.accessible (s.sp - 1) = false) :
    (pushWord v s).FaultsAt (s.sp - 1) .write s := by
  obtain ⟨t, hstop, hfault, hregs, hmem, hie, hime⟩ :=
    memWrite_faultsAt (setSP_inv hs (s.sp - 1)) (hiByte v) (a := s.sp - 1) ha
  have ht : FaultedAt (s.sp - 1) .write s t := ⟨hfault, hregs, hmem, hie, hime⟩
  exact Res.FaultsAt.bind ⟨t, hstop, ht⟩ _

theorem popWord_faultsAt (ha : s.accessible s.sp = false) : (popWord s).FaultsAt s.sp .read s :=
  ((memRead_faultsAt hs ha).bind _).bind _

theorem returnToCaller_faultsAt (ha : s.accessible s.sp = false) : (returnToCaller s).FaultsAt s.sp .read s :=
  (popWord_faultsAt hs ha).bind _

/-- An internal cycle before the access. -/
theorem tick_bind_faultsAt {α : Type} {k : Access} {g : Unit → State → Res α}
    (h : (g () s.ticked).FaultsAt a k s.ticked) : ((tick s).bind g).FaultsAt a k s := by
  obtain ⟨t, hstop, hfault, hregs, hmem, hie, hime⟩ := h
  rw [tick_ok hs, Res.ok_bind]
  exact ⟨t, hstop, by simpa using hfault, by simpa using hregs, by simpa using hmem, by simpa using hie,
    by simpa using hime⟩

theorem callTo_faultsAt (target : Word) (ha : s.accessible (s.sp - 1) = false) :
    (callTo target s).FaultsAt (s.sp - 1) .write s := by
  refine tick_bind_faultsAt hs (Res.FaultsAt.bind ?_ _)
  simpa using pushWord_faultsAt (ticked_inv hs) s.pc (by simpa using ha)

end

end Sys2Proof.Machine

namespace Sys2Proof

open Sys2Proof.Machine

/-- A list that a condition guards has a first element only where the condition holds. -/
theorem guarded_eq_cons {c : Prop} [Decidable c] {l rest : List Word} {a : Word}
    (h : (if c then l else []) = a :: rest) : c ∧ l = a :: rest := by
  split at h
  · next hc => exact ⟨hc, h⟩
  · cases h

section
variable {f : Form} {s : State} {a : Word} {rest : List Word} (hs : s.Inv) (ha : s.accessible a = false)
include hs ha

theorem Form.run_read_faultsAt (h : f.reads s = a :: rest) : (f.run s).FaultsAt a .read s := by
  cases f
  case ldRegAtHl | ldAAtHlInc | ldAAtHlDec | aluAtHl | incAtHl | decAtHl | rotAtHl | bitAtHl | resAtHl | setAtHl |
      ldAAtBc | ldAAtDe | ldAAtNn | ldhAAtN | ldAAtC =>
    cases h
    exact (memRead_faultsAt hs ha).bind _
  case pop =>
    cases h
    exact (popWord_faultsAt hs ha).bind _
  case ret =>
    cases h
    exact returnToCaller_faultsAt hs ha
  case reti =>
    cases h
    exact (returnToCaller_faultsAt hs ha).bind _
  case retCond cc =>
    obtain ⟨hcc, h⟩ := guarded_eq_cons h
    cases h
    refine tick_bind_faultsAt hs ?_
    rw [onCond, ticked_flags, if_pos hcc]
    simpa using returnToCaller_faultsAt (ticked_inv hs) (by simpa using ha)
  all_goals cases h

theorem Form.run_write_faultsAt (hr : f.reads s = []) (h : f.stores s = a :: rest) :
    (f.run s).FaultsAt a .write s := by
  cases f
  case ldAtHlReg | ldAtHlImm | ldAtBcA | ldAtDeA | ldAtNnA | ldhAtNA | ldAtCA =>
    cases h
    exact memWrite_faultsAt hs _ ha
  case ldAtHlIncA | ldAtHlDecA | ldAtNnSp =>
    cases h
    exact (memWrite_faultsAt hs _ ha).bind _
  case push rr =>
    cases h
    refine tick_bind_faultsAt hs ?_
    simpa using pushWord_faultsAt (ticked_inv hs) (s.stk rr) (by simpa using ha)
  case call | rst =>
    cases h
    exact callTo_faultsAt hs _ ha
  case callCond cc nn =>
    obtain ⟨hcc, h⟩ := guarded_eq_cons h
    cases h
    have hrun : (Form.callCond cc nn).run s = callTo nn s := if_pos hcc
    rw [hrun]
    exact callTo_faultsAt hs nn ha
  case incAtHl | decAtHl | rotAtHl | resAtHl | setAtHl => cases hr
  all_goals cases h

/-- The first access of a form decides the fault: the form's reads come before its stores. -/
theorem Form.run_faultsAt (h : f.reads s ++ f.stores s = a :: rest) :
    (f.run s).FaultsAt a (if f.reads s = [] then .write else .read) s := by
  cases hr : f.reads s with
  | nil =>
    rw [hr] at h
    exact Form.run_write_faultsAt hs ha hr h
  | cons b bs =>
    rw [hr] at h
    cases h
    exact Form.run_read_faultsAt hs ha hr

end

end Sys2Proof
end

section
/-! The statements about memory: the bus, the address map, and what steps and instructions leave of it. -/

namespace Sys2Proof.Proofs

open Sys2Proof Sys2Proof.Machine

/-- Settles O17: the tick does the same work with a failed check and without; the access runs on what it leaves. -/
theorem busCycleTicksThenAccesses : Obligations.BusCycleTicksThenAccesses := by
  unfold Obligations.BusCycleTicksThenAccesses
  intro s a v t
  have ht : s.tickEnd = t := s.tickEnd_eq
  have hacc : t.accessible a = s.accessible a := rfl
  refine ⟨fun hs => (Ppu.tick_ok s.mem hs.ppu).1, fun hf => ?_, fun f hf => ?_⟩
  · have htick : busTick s = .ok () t := ht ▸ busTick_of_noFault hf
    have hread : memRead a s = decodeRead a t := by rw [memRead, htick, Res.ok_bind]
    have hwrite : memWrite a v s = decodeWrite a v t := by rw [memWrite, htick, Res.ok_bind]
    refine ⟨htick, fun ha => ?_, fun ha => ?_⟩
    · obtain ⟨hr, hw⟩ := decode_of_accessible (s := t) v (hacc.trans ha)
      exact ⟨hread.trans hr, hwrite.trans hw, noteRead_withAudio t a⟩
    · obtain ⟨hr, hw⟩ := decode_of_forbidden (s := t) v (hacc.trans ha)
      exact ⟨hread.trans hr, hwrite.trans hw⟩
  · have htick : busTick s = .stop { t with fault := some f } := ht ▸ busTick_of_fault hf
    exact ⟨htick, by rw [memRead, htick, Res.stop_bind], by rw [memWrite, htick, Res.stop_bind]⟩

/-- Settles O18: the stores by the memory list, the rows without a byte and IE by the row of the address. -/
theorem addressMapRows : Obligations.AddressMapRows := by
  unfold Obligations.AddressMapRows
  intro s a v stored
  have ram (h : isRam a.toNat = true) : decodeRead a s = .ok (s.mem.read a.toNat) s ∧ decodeWrite a v s = stored :=
    have hstore : isStore a.toNat = true := by simp [isStore, h]
    ⟨decodeRead_of_store s hstore,
      (decode_of_accessible v (accessible_of_store s hstore)).2.trans (by rw [busStore_of_ram s v h]; rfl)⟩
  refine ⟨fun h => ?_, fun hlo hhi => ram (by simp [isRam, hlo, hhi]),
    fun hlo hhi => decode_of_noByte s v (.inl (regionOf_eq_openBus hlo hhi)),
    fun hlo hhi => ram (by simp [isRam, hlo, hhi]),
    fun hlo hhi => decode_of_noByte s v (.inr (regionOf_eq_prohibited (.inl ⟨hlo, hhi⟩))),
    fun hlo hhi => ram (by simp [isRam, hlo, hhi]),
    fun hlo hhi => decode_of_noByte s v (.inr (regionOf_eq_prohibited (.inr ⟨hlo, hhi⟩))),
    fun hlo hhi => ram (by simp [isRam, hlo, hhi]), fun h => ?_⟩
  · have hrom : isRom a.toNat = true := by simp [isRom, h]
    have hstore : isStore a.toNat = true := by simp [isStore, hrom]
    refine ⟨decodeRead_of_store s hstore, ?_⟩
    rw [(decode_of_accessible v (accessible_of_store s hstore)).2, busStore_of_rom s v hrom]
    split <;> rfl
  · have hie : regionOf a = .ie := regionOf_eq_ie_iff.mpr (BitVec.eq_of_toNat_eq h)
    obtain ⟨hread, hwrite⟩ := decode_of_ne_regBank s v (a := a) (by simp [hie])
    rw [hread, hwrite]
    simp only [State.busValue, State.busStore, hie, and_self]

/-- Settles O19: each address finds its register in the default map, and the register answers the access. -/
theorem registerBankReadsAndWrites : Obligations.RegisterBankReadsAndWrites := by
  unfold Obligations.RegisterBankReadsAndWrites
  intro s v hmap shown
  have access {a : Word} {r : BusReg} (hr : lookupReg Config.regMap a.toNat = some r) :
      decodeRead a s = .ok (readReg r a s) (if r = .audio then audioAccess a none s else s) ∧
        decodeWrite a v s = .ok () (writeReg r a v s) := decode_of_defaultMap v hmap hr
  exact ⟨access (r := .div) rfl, access (r := .tima) rfl, access (r := .tma) rfl, access (r := .tac) rfl,
    access (r := .intFlag) rfl, fun a ha => access (r := .audio) (lookupReg_audio ha), access (r := .lcdc) rfl,
    access (r := .scy) rfl, access (r := .scx) rfl, access (r := .ly) rfl, access (r := .bgp) rfl⟩

/-- Settles O20: an access is forbidden where the map finds no row, and the tick is all that has happened then. -/
theorem unassignedRegisterFaults : Obligations.UnassignedRegisterFaults := by
  unfold Obligations.UnassignedRegisterFaults
  refine ⟨fun s a v hs hlo hhi hrows => ?_, accessible_eq_false_iff, fun s a hmap => ?_⟩
  · have ha : s.accessible a = false := (accessible_eq_false_iff s a).mpr ⟨hlo, hhi, hrows⟩
    exact ⟨memRead_stop hs ha, memWrite_stop hs ha v⟩
  · rw [accessible_eq_false_iff, hmap]
    simp only [Config.regMap, List.forall_mem_cons, List.not_mem_nil, false_implies, implies_true, and_true]
    omega

/-- Settles O21: the write stores the byte, and a read of a store is a read of memory. -/
theorem readReturnsTheLastWrite : Obligations.ReadReturnsTheLastWrite := by
  unfold Obligations.ReadReturnsTheLastWrite
  intro s a b v hm ha
  rw [busStore_of_ram s v ha]
  split
  · next hb =>
    rw [hb, busValue_of_store _ (by simp [isStore, ha]), storeByte, Memory.read_write hm, if_pos rfl]
  · next hb => exact busValue_storeByte_of_ne v hm hb

/-- Settles O32: no part of a step writes a parameter, and a store to the ROM window wants TEST_MODE. -/
theorem stepsKeepRomAndParameters : Obligations.StepsKeepRomAndParameters := by
  unfold Obligations.StepsKeepRomAndParameters
  intro s t h
  have hst : SameLaunch s t := (sameLaunch_keeps s).step ⟨rfl, fun hm _ => ⟨hm, fun _ _ => rfl⟩⟩ h
  exact ⟨hst.params, fun hm htest => (hst.rom hm htest).read⟩

/-- Settles O37: each bus write of a form goes to one of the addresses it stores to. -/
theorem memoryFrame : Obligations.MemoryFrame := by
  unfold Obligations.MemoryFrame
  intro i s t hi hm h
  obtain ⟨-, hread, hie⟩ := exec_keeps hi (leavesBytes_keeps i.form (· ∈ i.form.stores s) s) (fun _ ha => ha)
    ⟨hm, fun _ _ => rfl, fun _ => rfl⟩ h
  exact ⟨hread, hie⟩

/-- Settles O40: the first access of the form stops it, after at most a tick and a move of SP. -/
theorem forbiddenAccessFaults : Obligations.ForbiddenAccessFaults := by
  unfold Obligations.ForbiddenAccessFaults
  intro i s a rest hi hs _ hfirst ha
  obtain ⟨t, hstop, hfault, hregs, hmem, hie, hime⟩ := Form.run_faultsAt hs ha hfirst
  have hflags : t.flags = s.flags := (congrArg Regs.flags hregs :)
  have hpc : t.pc = s.pc := (congrArg Regs.pc hregs :)
  refine ⟨t, by rw [exec_eq_run hi, hstop]; rfl, hfault, fun r => ?_, hflags, hpc, hmem, hie, hime⟩
  rw [State.r8, hregs]
  cases r <;> rfl

end Sys2Proof.Proofs
end

section
/-! SUPPORT. The decoder against the encoder (R140 to R159): every instruction through its own bytes, every cell of the two
tables through its encoding, and which bytes the decoder takes. -/

namespace Sys2Proof

/-- The decoder runs through the bytes of each instruction; it puts a 16-bit immediate together again from its halves. -/
theorem decode_encode_append {i : Instr} (hi : i.WellFormed) (rest : List Byte) :
    decode (encode i ++ rest) = .ok (i, rest) := by
  cases i
  case prefixCB => cases hi
  case ld_BC_nn nn | ld_atNN_SP nn | ld_DE_nn nn | ld_HL_nn nn | ld_SP_nn nn | jp_NZ_nn nn | jp_nn nn | call_NZ_nn nn |
      jp_Z_nn nn | call_Z_nn nn | call_nn nn | jp_NC_nn nn | call_NC_nn nn | jp_C_nn nn | call_C_nn nn | ld_atNN_A nn |
      ld_A_atNN nn =>
    conv_rhs => rw [← ofBytes_halves nn]
    rfl
  all_goals rfl

/-- A cell of the primary table is encoded as its own opcode and the operand bytes it took; the escape entry took none. -/
theorem encode_primary (op b1 b2 : Byte) :
    encode (primary op b1 b2) = if op = escapeByte then [op] else [op, b1, b2].take (instrLength op) := by
  have cell : ∀ (i j : Fin 16) (op : Byte), op = BitVec.ofNat 8 (16 * i.val + j.val) →
      encode (((primaryTable.get i).get j) b1 b2) = if op = escapeByte then [op] else
        (op :: if instrLength op = 3 then [loByte (ofBytes b2 b1), hiByte (ofBytes b2 b1)] else [b1, b2]).take
          (instrLength op) := by
    rintro i j - rfl
    fin_cases i <;> fin_cases j <;> rfl
  refine (cell _ _ op (opcode_of_nibbles op).symm).trans ?_
  rw [loByte_ofBytes, hiByte_ofBytes, ite_self]

theorem encode_secondary (op2 : Byte) : encode (secondary op2) = [escapeByte, op2] := by
  have cell : ∀ i j : Fin 16, encode ((secondaryTable.get i).get j) =
      [escapeByte, BitVec.ofNat 8 (16 * i.val + j.val)] := by decide
  exact (cell _ _).trans (by rw [opcode_of_nibbles])

/-- Encoding gives back the bytes an instruction was assembled from, as far as it has them. -/
theorem encode_assemble (op b1 b2 : Byte) : encode (assemble op b1 b2) = [op, b1, b2].take (instrLength op) := by
  unfold assemble
  split
  · next h =>
    subst h
    exact encode_secondary b1
  · next h => rw [encode_primary, if_neg h]

/-- What the decoder answers is assembled from the bytes it takes, except for an escape byte that stands last. -/
theorem decode_cases {bytes rest : List Byte} {i : Instr} (h : decode bytes = .ok (i, rest)) :
    (∃ op b1 b2, i = assemble op b1 b2 ∧ bytes = [op, b1, b2].take (instrLength op) ++ rest) ∨
      (bytes = [escapeByte] ∧ i = .prefixCB ∧ rest = []) := by
  unfold decode at h
  split at h
  · cases h
  · next op _ =>
    split at h
    · next hlen => cases h; exact .inl ⟨op, 0, 0, rfl, by rw [hlen]; rfl⟩
    · next b1 _ hlen => cases h; exact .inl ⟨op, b1, 0, rfl, by rw [hlen]; rfl⟩
    · next b1 b2 _ hlen => cases h; exact .inl ⟨op, b1, b2, rfl, by rw [hlen]; rfl⟩
    · split at h
      · next hesc =>
        obtain ⟨rfl, rfl⟩ := hesc
        cases h
        exact .inr ⟨rfl, rfl, rfl⟩
      · cases h

end Sys2Proof
end

section
/-! The statements about the encoding: decoding and encoding undo each other, and words from the spec's tables. -/

namespace Sys2Proof.Proofs

open Sys2Proof

/-- Settles O1: each instruction's bytes lead the decoder to its own row. -/
theorem encodedInstructionDecodesToItself : Obligations.EncodedInstructionDecodesToItself := by
  unfold Obligations.EncodedInstructionDecodesToItself
  intro i rest hi
  exact decode_encode_append hi rest

/-- Settles O2: the bytes taken are those the instruction was assembled from, and encoding gives them back. -/
theorem decodedBytesAreTheEncoding : Obligations.DecodedBytesAreTheEncoding := by
  unfold Obligations.DecodedBytesAreTheEncoding
  intro bytes i rest h
  obtain ⟨op, b1, b2, rfl, hbytes⟩ | ⟨rfl, rfl, rfl⟩ := decode_cases h
  · rw [encode_assemble, hbytes]
  · rfl

/-- Settles O4: each word is the encoding of its instruction, with nothing after it. -/
theorem sampleWordsDecode : Obligations.SampleWordsDecode := by
  unfold Obligations.SampleWordsDecode
  have word {i : Instr} {bytes : List Byte} (hi : i.WellFormed) (hbytes : encode i ++ [] = bytes) :
      decode bytes = .ok (i, []) := hbytes ▸ decode_encode_append hi []
  exact ⟨word rfl rfl, word rfl rfl, word rfl rfl, word rfl rfl, word rfl rfl, word rfl rfl, word rfl rfl, word rfl rfl,
    word rfl rfl, word rfl rfl, word rfl rfl, word rfl rfl, word rfl rfl, word rfl rfl, word rfl rfl⟩

end Sys2Proof.Proofs
end

section
/-! SUPPORT. What an instruction's first byte decides: its length, and whether it is STOP or unassigned (R157, R189). -/

namespace Sys2Proof

theorem instrLength_cases (op : Byte) : instrLength op = 1 ∨ instrLength op = 2 ∨ instrLength op = 3 := by
  unfold instrLength
  split_ifs <;> simp

/-- From three bytes the decoder answers an instruction assembled from them, and what follows it. -/
theorem decode_three_append (b0 b1 b2 : Byte) (rest : List Byte) : ∃ c1 c2 : Byte,
    decode (b0 :: b1 :: b2 :: rest) = .ok (assemble b0 c1 c2, (b0 :: b1 :: b2 :: rest).drop (instrLength b0)) := by
  rcases instrLength_cases b0 with hlen | hlen | hlen
  · exact ⟨0, 0, by simp [decode, hlen]⟩
  · exact ⟨b1, 0, by simp [decode, hlen]⟩
  · exact ⟨b1, b2, by simp [decode, hlen]⟩

/-- The opcodes that no instruction has (R189). -/
def unassignedOpcodes : List Byte := [0xD3, 0xDB, 0xDD, 0xE3, 0xE4, 0xEB, 0xEC, 0xED, 0xF4, 0xFC, 0xFD]

theorem mem_unassignedOpcodes_of_form {i : Instr} {op : Byte} (h : i.form = .illegal op) : op ∈ unassignedOpcodes := by
  cases i
  case illegal_D3 | illegal_DB | illegal_DD | illegal_E3 | illegal_E4 | illegal_EB | illegal_EC | illegal_ED |
      illegal_F4 | illegal_FC | illegal_FD =>
    cases h
    decide
  all_goals cases h

theorem assemble_unassigned {op : Byte} (h : op ∈ unassignedOpcodes) (b1 b2 : Byte) :
    (assemble op b1 b2).form = .illegal op := by
  revert op
  simp only [unassignedOpcodes, List.forall_mem_cons, List.not_mem_nil, false_implies, implies_true, and_true]
  exact ⟨rfl, rfl, rfl, rfl, rfl, rfl, rfl, rfl, rfl, rfl, rfl⟩

/-- STOP is encoded as its own byte, and no other first byte is assembled to it (R453). -/
theorem assemble_form_eq_stop_iff (op b1 b2 : Byte) : (assemble op b1 b2).form = .stop ↔ op = 0x10 := by
  constructor
  · intro h
    have hbytes : [op, b1, b2].take (instrLength op) = [0x10] := by
      rw [← encode_assemble, encode, h]
      rfl
    rcases instrLength_cases op with hlen | hlen | hlen <;> rw [hlen] at hbytes <;> cases hbytes
    rfl
  · rintro rfl
    rfl

end Sys2Proof
end

section
/-! SUPPORT. How many M-cycles an operation takes, and when it goes through (R192, R503, R720, R721): one walk over the
forms (`Form.run_takes`). -/

namespace Sys2Proof.Machine

open Sys2Proof

/-! ## Operations in sequence -/

/-- `r`, begun in `s`, takes `n` M-cycles and keeps the launch parameters, or stops in a fault at one of those cycles.
Where `s` meets the invariant and the addresses in `A` may be accessed, it does not stop. -/
structure Res.Takes {α : Type} (r : Res α) (n : Nat) (A : Word → Prop) (s : State) : Prop where
  ok       : ∀ v t, r = .ok v t → t.cycles = s.cycles + n ∧ t.params = s.params
  stop     : ∀ t, r = .stop t → s.cycles < t.cycles ∧ t.cycles ≤ s.cycles + n
  complete : s.Inv → (∀ a, A a → s.accessible a = true) → ∃ v t, r = .ok v t ∧ t.Inv ∧ t.fault = s.fault

/-- `t` differs from `s` at most in the register file and the latches. -/
def State.Rewrites (s t : State) : Prop := { s with regs := t.regs }.setLatches t.latches = t

section
variable {α β : Type} {A : Word → Prop} {s t : State} {m n : Nat}

theorem Res.takes_pure (v : α) : (Res.ok v s).Takes 0 A s where
  ok _ _ h := by cases h; exact ⟨rfl, rfl⟩
  stop _ h := nomatch h
  complete hs _ := ⟨v, s, rfl, hs, rfl⟩

/-- Registers and latches are written in no time. -/
theorem Res.Takes.after_rewrite {r : Res α} (hr : r.Takes n A t) (h : s.Rewrites t) : r.Takes n A s := by
  have h : { s with regs := t.regs }.setLatches t.latches = t := h
  have hcycles : s.cycles = t.cycles := (congrArg State.cycles h :)
  have hparams : s.params = t.params := (congrArg State.params h :)
  have hfault : s.fault = t.fault := (congrArg State.fault h :)
  have hmem : s.mem = t.mem := (congrArg State.mem h :)
  have hppu : s.ppu = t.ppu := (congrArg State.ppu h :)
  refine ⟨fun v u hu => ?_, fun u hu => ?_, fun hs hA => ?_⟩
  · rw [hcycles, hparams]
    exact hr.ok v u hu
  · rw [hcycles]
    exact hr.stop u hu
  · rw [hfault]
    exact hr.complete ⟨hmem ▸ hs.mem_wf, hmem ▸ hs.mem_stores, hppu ▸ hs.ppu⟩ fun a ha =>
      (accessible_congr hparams.symm a).trans (hA a ha)

theorem Res.takes_rewrite {v : α} (h : s.Rewrites t) : (Res.ok v t).Takes 0 A s := (takes_pure v).after_rewrite h

theorem Res.Takes.bind {total : Nat} {r : Res α} {k : α → State → Res β} (hr : r.Takes m A s)
    (hk : ∀ v t, r = .ok v t → (k v t).Takes n A t) (htotal : total = m + n := by rfl) :
    (r.bind k).Takes total A s := by
  subst htotal
  cases r with
  | stop t =>
    obtain ⟨hlt, hle⟩ := hr.stop t rfl
    refine ⟨fun _ _ h => (nomatch h), fun u h => ?_, fun hs hA => ?_⟩
    · cases h
      exact ⟨hlt, by omega⟩
    · obtain ⟨_, _, h, -, -⟩ := hr.complete hs hA
      cases h
  | ok v t =>
    obtain ⟨hcycles, hparams⟩ := hr.ok v t rfl
    have hk := hk v t rfl
    refine ⟨fun w u h => ?_, fun u h => ?_, fun hs hA => ?_⟩
    · obtain ⟨hc, hp⟩ := hk.ok w u h
      exact ⟨by omega, hp.trans hparams⟩
    · obtain ⟨hlt, hle⟩ := hk.stop u h
      exact ⟨by omega, by omega⟩
    · obtain ⟨_, _, h, hinv, hfault⟩ := hr.complete hs hA
      cases h
      obtain ⟨w, u, hw, hu, huf⟩ := hk.complete hinv fun a ha => (accessible_congr hparams a).trans (hA a ha)
      exact ⟨w, u, hw, hu, huf.trans hfault⟩

theorem Res.Takes.cycles_le {r : Res α} (h : r.Takes n A s) :
    s.cycles ≤ r.state.cycles ∧ r.state.cycles ≤ s.cycles + n := by
  cases r with
  | ok v t =>
    have hcycles : t.cycles = s.cycles + n := (h.ok v t rfl).1
    exact ⟨hcycles ▸ Nat.le_add_right _ _, hcycles.le⟩
  | stop t =>
    obtain ⟨hlt, hle⟩ := h.stop t rfl
    exact ⟨hlt.le, hle⟩

theorem Res.Takes.lt_cycles {r : Res α} (h : r.Takes (n + 1) A s) : s.cycles < r.state.cycles := by
  cases r with
  | ok v t =>
    have hcycles : t.cycles = s.cycles + (n + 1) := (h.ok v t rfl).1
    exact hcycles ▸ Nat.lt_add_of_pos_right n.succ_pos
  | stop t => exact (h.stop t rfl).1

/-! ## Bus cycles, fetches and the stack -/

/-- One M-cycle, whose tick is done whether or not a fault stops the cycle (R503). -/
theorem Res.takes_cycle {r : Res α} (hcycle : r.state.cycles = s.cycles + 1 ∧ r.state.params = s.params)
    (hcomplete : s.Inv → (∀ a, A a → s.accessible a = true) → ∃ v t, r = .ok v t ∧ t.Inv ∧ t.fault = s.fault) :
    r.Takes 1 A s where
  ok v t h := by rwa [h] at hcycle
  stop t h := by
    rw [h] at hcycle
    have hcycles : t.cycles = s.cycles + 1 := hcycle.1
    omega
  complete := hcomplete

theorem tick_takes : (tick s).Takes 1 A s :=
  Res.takes_cycle ⟨ticked_cycles s, ticked_params s⟩ fun hs _ =>
    ⟨(), s.ticked, tick_ok hs, ticked_inv hs, ticked_fault hs⟩

theorem afterRead_fault (hs : s.Inv) (a : Word) : (s.afterRead a).fault = s.fault :=
  (noteRead_fault _ a).trans (ticked_fault hs)

theorem afterWrite_fault (hs : s.Inv) (a : Word) (v : Byte) : (s.afterWrite a v).fault = s.fault :=
  (busStore_fault _ a v).trans (ticked_fault hs)

theorem memRead_takes {a : Word} (ha : A a) : (memRead a s).Takes 1 A s := by
  have hcycle : (memRead a s).state.cycles = s.cycles + 1 ∧ (memRead a s).state.params = s.params := by
    refine Res.bind_keeps (P := fun t => t.cycles = _ ∧ t.params = _) ⟨ticked_cycles s, ticked_params s⟩
      fun _ t _ ht => ?_
    unfold decodeRead
    split
    · simpa using ht
    · exact ht
  exact Res.takes_cycle hcycle fun hs hA => ⟨_, _, memRead_ok hs (hA a ha), afterRead_inv hs a, afterRead_fault hs a⟩

theorem memWrite_takes {a : Word} (v : Byte) (ha : A a) : (memWrite a v s).Takes 1 A s := by
  have hcycle : (memWrite a v s).state.cycles = s.cycles + 1 ∧ (memWrite a v s).state.params = s.params := by
    refine Res.bind_keeps (P := fun t => t.cycles = _ ∧ t.params = _) ⟨ticked_cycles s, ticked_params s⟩
      fun _ t _ ht => ?_
    unfold decodeWrite
    split
    · simpa using ht
    · exact ht
  exact Res.takes_cycle hcycle fun hs hA =>
    ⟨_, _, memWrite_ok hs (hA a ha) v, afterWrite_inv hs a v, afterWrite_fault hs a v⟩

theorem fetch8_takes : (fetch8 s).Takes 1 (fun _ => True) s :=
  (memRead_takes trivial).bind fun _ _ _ => Res.takes_rewrite rfl

theorem fetchOpcode_takes : (fetchOpcode s).Takes 1 (fun _ => True) s := by
  refine (memRead_takes trivial).bind (n := 0) fun op t _ => ?_
  unfold afterOpcodeRead
  split
  · exact Res.takes_rewrite rfl
  · exact Res.takes_rewrite rfl

theorem pushByte_takes (v : Byte) (ha : A (s.sp - 1)) : (pushByte v s).Takes 1 A s :=
  (memWrite_takes (s := s.setSP _) v ha).after_rewrite rfl

theorem pushWord_takes (v : Word) (hA : ∀ a ∈ s.pushAddrs, A a) : (pushWord v s).Takes 2 A s := by
  refine (pushByte_takes _ (hA _ (by simp [State.pushAddrs]))).bind (n := 1) fun _ t ht => pushByte_takes _ ?_
  have hsp : t.sp = s.sp - 1 := congrArg Regs.sp (regs_of_memWrite ht)
  simpa [hsp, sub_one_sub_one] using hA (s.sp - 2) (by simp [State.pushAddrs])

theorem popByte_takes (ha : A s.sp) : (popByte s).Takes 1 A s :=
  (memRead_takes ha).bind fun _ _ _ => Res.takes_rewrite rfl

theorem popWord_takes (hA : ∀ a ∈ s.popAddrs, A a) : (popWord s).Takes 2 A s := by
  refine (popByte_takes (hA _ (by simp [State.popAddrs]))).bind (n := 1) fun _ t ht =>
    (popByte_takes ?_).bind fun _ _ _ => Res.takes_pure _
  obtain ⟨_, u, hu, ht⟩ := Res.bind_eq_ok ht
  cases ht
  have hsp : u.sp = s.sp := congrArg Regs.sp (regs_of_memRead hu)
  simpa [hsp] using hA (s.sp + 1) (by simp [State.popAddrs])

theorem returnToCaller_takes (hA : ∀ a ∈ s.popAddrs, A a) : (returnToCaller s).Takes 3 A s :=
  (popWord_takes hA).bind fun _ _ _ => tick_takes.bind fun _ _ _ => Res.takes_rewrite rfl

theorem jumpTo_takes (target : Word) : (jumpTo target s).Takes 1 A s :=
  tick_takes.bind fun _ _ _ => Res.takes_rewrite rfl

theorem callTo_takes (target : Word) (hA : ∀ a ∈ s.pushAddrs, A a) : (callTo target s).Takes 3 A s := by
  refine tick_takes.bind (n := 2) fun _ t ht => (pushWord_takes _ ?_).bind fun _ _ _ => Res.takes_rewrite rfl
  rwa [pushAddrs_of_regs (regs_of_tick ht)]

theorem onCond_takes {cc : Cond} {k : State → Res Unit} (h : s.flags.holds cc = true → (k s).Takes n A s) :
    (onCond cc k s).Takes (if s.flags.holds cc then n else 0) A s := by
  unfold onCond
  split
  · next hc => exact h hc
  · exact Res.takes_pure ()

theorem serviceInterrupt_takes : (serviceInterrupt s).Takes 5 (fun _ => True) (acceptInterrupt s) :=
  tick_takes.bind fun _ _ _ => tick_takes.bind fun _ _ _ => (pushWord_takes _ fun _ _ => trivial).bind fun _ _ _ =>
    tick_takes.bind fun _ _ _ => Res.takes_rewrite rfl

end

end Sys2Proof.Machine

namespace Sys2Proof

open Sys2Proof.Machine

/-! ## The walk -/

/-- The M-cycles of a form after its bytes are fetched (R720, R721). -/
def Form.ticks (f : Form) (flags : Flags) : Nat :=
  match f with
  | .ldRegAtHl _ | .ldAtHlReg _ | .ldAtHlImm _ | .ldAAtBc | .ldAAtDe | .ldAtBcA | .ldAtDeA | .ldAAtHlInc | .ldAAtHlDec
  | .ldAtHlIncA | .ldAtHlDecA | .ldAAtNn _ | .ldAtNnA _ | .ldhAAtN _ | .ldhAtNA _ | .ldAAtC | .ldAtCA | .ldSpHl
  | .ldHlSpE _ | .aluAtHl _ | .addHl _ | .incPair _ | .decPair _ | .bitAtHl _ | .jp _ | .jr _ => 1
  | .ldAtNnSp _ | .pop _ | .incAtHl | .decAtHl | .addSpE _ | .rotAtHl _ | .resAtHl _ | .setAtHl _ => 2
  | .push _ | .call _ | .ret | .reti | .rst _ => 3
  | .jpCond cc _ | .jrCond cc _ => if flags.holds cc then 1 else 0
  | .callCond cc _ => if flags.holds cc then 3 else 0
  | .retCond cc => 1 + if flags.holds cc then 3 else 0
  | .ldRegReg _ _ | .ldRegImm _ _ | .ldPairImm _ _ | .aluReg _ _ | .aluImm _ _ | .incReg _ | .decReg _ | .daa | .cpl
  | .scf | .ccf | .rlca | .rrca | .rla | .rra | .rotReg _ _ | .bitReg _ _ | .resReg _ _ | .setReg _ _ | .jpHl | .nop
  | .halt | .stop | .di | .ei | .illegal _ | .prefixCb => 0

/-- Every form but those whose rule is a fault takes its M-cycles, and goes through where its accesses are allowed. -/
theorem Form.run_takes {f : Form} {A : Word → Prop} {s : State} (hf : f.isFault = false)
    (hA : ∀ a ∈ f.reads s ++ f.stores s, A a) : (f.run s).Takes (f.ticks s.flags) A s := by
  have hreads : ∀ a ∈ f.reads s, A a := fun a ha => hA a (List.mem_append_left _ ha)
  have hstores : ∀ a ∈ f.stores s, A a := fun a ha => hA a (List.mem_append_right _ ha)
  cases f
  case stop | illegal => cases hf
  case ldRegReg | ldRegImm | ldPairImm | aluReg | aluImm | incReg | decReg | daa | cpl | scf | ccf | rlca | rrca | rla |
      rra | rotReg | bitReg | resReg | setReg | jpHl | nop | di | ei | prefixCb =>
    exact Res.takes_rewrite rfl
  case halt =>
    show (Machine.halt s).Takes 0 A s
    unfold Machine.halt
    split
    · exact Res.takes_rewrite rfl
    · exact Res.takes_rewrite rfl
  case ldRegAtHl | ldAAtBc | ldAAtDe | ldAAtHlInc | ldAAtHlDec | ldAAtNn | ldhAAtN | ldAAtC | aluAtHl | bitAtHl =>
    exact (memRead_takes (hreads _ List.mem_cons_self)).bind fun _ _ _ => Res.takes_rewrite rfl
  case ldAtHlReg | ldAtHlImm | ldAtBcA | ldAtDeA | ldAtNnA | ldhAtNA | ldAtCA =>
    exact memWrite_takes _ (hstores _ List.mem_cons_self)
  case ldAtHlIncA | ldAtHlDecA =>
    exact (memWrite_takes _ (hstores _ List.mem_cons_self)).bind fun _ _ _ => Res.takes_rewrite rfl
  case ldAtNnSp =>
    exact (memWrite_takes _ (hstores _ List.mem_cons_self)).bind fun _ _ _ =>
      memWrite_takes _ (hstores _ (List.mem_cons_of_mem _ List.mem_cons_self))
  case incAtHl | decAtHl =>
    exact (memRead_takes (hreads _ List.mem_cons_self)).bind fun _ _ _ =>
      (memWrite_takes _ (hstores _ List.mem_cons_self)).bind fun _ _ _ => Res.takes_rewrite rfl
  case rotAtHl | resAtHl | setAtHl =>
    exact (memRead_takes (hreads _ List.mem_cons_self)).bind fun _ _ _ =>
      (memWrite_takes _ (hstores _ List.mem_cons_self)).after_rewrite rfl
  case ldSpHl | ldHlSpE | addHl | incPair | decPair => exact tick_takes.bind fun _ _ _ => Res.takes_rewrite rfl
  case addSpE => exact tick_takes.bind fun _ _ _ => tick_takes.bind fun _ _ _ => Res.takes_rewrite rfl
  case jp | jr => exact jumpTo_takes _
  case jpCond | jrCond => exact onCond_takes fun _ => jumpTo_takes _
  case push =>
    refine tick_takes.bind (n := 2) fun _ t ht => pushWord_takes _ ?_
    rwa [pushAddrs_of_regs (regs_of_tick ht)]
  case pop => exact (popWord_takes hreads).bind fun _ _ _ => Res.takes_rewrite rfl
  case call | rst => exact callTo_takes _ hstores
  case callCond cc nn => exact onCond_takes fun hcc => callTo_takes _ (Form.stores_callCond hcc ▸ hstores)
  case ret => exact returnToCaller_takes hreads
  case reti => exact (returnToCaller_takes hreads).bind fun _ _ _ => Res.takes_rewrite rfl
  case retCond cc =>
    refine tick_takes.bind (n := if s.flags.holds cc then 3 else 0) fun _ t ht => ?_
    have hregs : t.regs = s.regs := regs_of_tick ht
    have hflags : t.flags = s.flags := congrArg Regs.flags hregs
    have hpop : t.popAddrs = s.popAddrs := by simp [State.popAddrs, State.sp, hregs]
    rw [← hflags]
    refine onCond_takes fun hcc => returnToCaller_takes fun a ha => hreads a ?_
    show a ∈ if s.flags.holds cc then s.popAddrs else []
    rwa [if_pos (hflags ▸ hcc), ← hpop]

/-- The longest instructions take 6 M-cycles, their fetches with them (R722). -/
theorem Form.length_add_ticks_le (f : Form) (flags : Flags) : f.encode.length + f.ticks flags ≤ 6 := by
  cases f
  case jpCond | jrCond | callCond | retCond =>
    simp only [Form.encode, Form.ticks, List.length_cons, List.length_nil]
    split <;> decide
  all_goals exact Nat.le_of_ble_eq_true rfl

/-- The M-cycles of a secondary instruction are two fetches and its form's own (R721). -/
theorem secondaryCost_eq (op2 : Byte) (flags : Flags) : secondaryCost op2 = 2 + (secondary op2).form.ticks flags := by
  have cell : ∀ i j : Fin 16, secondaryCost (BitVec.ofNat 8 (16 * i.val + j.val)) =
      2 + ((secondaryTable.get i).get j).form.ticks flags := by
    intro i j
    fin_cases i <;> fin_cases j <;> rfl
  have hop2 := cell (hiNibble op2) (loNibble op2)
  rwa [opcode_of_nibbles] at hop2

theorem secondary_isFault (op2 : Byte) : (secondary op2).form.isFault = false := by
  have cell : ∀ i j : Fin 16, ((secondaryTable.get i).get j).form.isFault = false := by decide
  exact cell _ _

/-- An instruction whose accesses are allowed goes through, in its form's M-cycles (R193). -/
theorem exec_completes {i : Instr} {s : State} (hi : i.WellFormed) (hf : i.form.isFault = false) (hs : s.Inv)
    (hA : AccessesAllowed i s) :
    ∃ t, exec i s = .next t ∧ t.fault = s.fault ∧ t.Inv ∧ t.cycles = s.cycles + i.form.ticks s.flags := by
  have htakes := Form.run_takes hf (A := (· ∈ i.form.reads s ++ i.form.stores s)) (s := s) fun _ ha => ha
  obtain ⟨_, t, hrun, ht, hfault⟩ := htakes.complete hs hA
  exact ⟨t, by rw [exec_eq_run hi, hrun]; rfl, hfault, ht, (htakes.ok _ t hrun).1⟩

/-- Faulting or not, an instruction takes no more than its form's M-cycles. -/
theorem exec_cycles {i : Instr} {s t : State} (hi : i.WellFormed) (h : exec i s = .next t) :
    s.cycles ≤ t.cycles ∧ t.cycles ≤ s.cycles + i.form.ticks s.flags := by
  rw [exec_eq_run hi] at h
  cases h
  cases hf : i.form.isFault with
  | false => exact (Form.run_takes hf (A := fun _ => True) fun _ _ => trivial).cycles_le
  | true =>
    cases hform : i.form
    case stop | illegal => exact ⟨Nat.le_refl _, Nat.le_refl _⟩
    all_goals
      rw [hform] at hf
      cases hf

namespace Machine

/-- A fetch takes a cycle for each byte of the instruction. -/
theorem cycles_of_fetchInstr {s t : State} {i : Instr} (h : fetchInstr s = .ok i t) :
    t.cycles = s.cycles + (encode i).length := by
  obtain ⟨op, u, hop, hu⟩ := Res.bind_eq_ok h
  have hopcode : u.cycles = s.cycles + 1 := (fetchOpcode_takes.ok op u hop).1
  split at hu
  · next hlen =>
    cases hu
    rw [encode_assemble_length, hlen, hopcode]
  · next hlen =>
    obtain ⟨b1, v, hv, hu⟩ := Res.bind_eq_ok hu
    cases hu
    rw [encode_assemble_length, hlen, (fetch8_takes.ok b1 t hv).1, hopcode]
  · next hlen1 hlen2 =>
    obtain ⟨b1, v, hv, hu⟩ := Res.bind_eq_ok hu
    obtain ⟨b2, w, hw, hu⟩ := Res.bind_eq_ok hu
    cases hu
    have hlen : instrLength op = 3 := (instrLength_cases op).resolve_left hlen1 |>.resolve_left hlen2
    rw [encode_assemble_length, hlen, (fetch8_takes.ok b2 t hw).1, (fetch8_takes.ok b1 v hv).1, hopcode]

/-- Stopped or not, a fetch takes one to three cycles. -/
theorem fetchInstr_cycles (s : State) :
    s.cycles < (fetchInstr s).state.cycles ∧ (fetchInstr s).state.cycles ≤ s.cycles + 3 := by
  have hopcode : (fetchOpcode s).Takes 1 (fun _ => True) s := fetchOpcode_takes
  refine Res.bind_keeps (P := fun t => s.cycles < t.cycles ∧ t.cycles ≤ s.cycles + 3)
    ⟨hopcode.lt_cycles, hopcode.cycles_le.2.trans (by omega)⟩ fun op t ht _ => ?_
  have hrest {r : Res Instr} {n : Nat} (hn : n ≤ 2) (hr : r.Takes n (fun _ => True) t) :
      s.cycles < r.state.cycles ∧ r.state.cycles ≤ s.cycles + 3 := by
    have ht : t.cycles = s.cycles + 1 := (hopcode.ok op t ht).1
    have hle := hr.cycles_le
    omega
  split
  · exact hrest (by decide) (Res.takes_pure _)
  · exact hrest (n := 1) (by decide) (fetch8_takes.bind fun _ _ _ => Res.takes_pure _)
  · exact hrest (n := 2) (by decide) (fetch8_takes.bind fun _ _ _ => fetch8_takes.bind fun _ _ _ => Res.takes_pure _)

end Machine

end Sys2Proof
end

section
/-! SUPPORT. The halted wait, the end of an instruction, the halt bug along a step, and the harness (R182, R186, R190,
R195, R196). -/

namespace Sys2Proof.Machine

open Sys2Proof

/-! ## The parts of a step (R182, R190) -/

/-- A halted machine with nothing pending ticks once (R182). -/
theorem step_of_idles {s : State} (hs : s.Inv) (hf : s.fault = none) (hh : s.halted = true) (hp : s.pending = false) :
    step s = .next (beginStep s).ticked := by
  have hbegun : (beginStep s).Inv := ⟨hs.mem_wf, hs.mem_stores, hs.ppu⟩
  have haccept : s.acceptsInterrupt = false := by simp [State.acceptsInterrupt, hp]
  have hidle : s.idles = true := by simp [State.idles, hh, hp]
  simp [step, hf, haccept, hidle, tick_ok hbegun]

/-- The end of an instruction writes IME and EI's latch alone (R190). -/
theorem applyDelayedEi_keeps (b : Bool) (s : State) :
    (applyDelayedEi b s).cycles = s.cycles ∧ (applyDelayedEi b s).haltBug = s.haltBug := by
  unfold applyDelayedEi
  split <;> exact ⟨rfl, rfl⟩

theorem applyDelayedEi_of_noFault (b : Bool) {s : State} (h : s.fault = none) : applyDelayedEi b s =
    { s with ime := s.ime || (b && s.eiPending), eiPending := s.eiPending && !b } := by
  have hnone : s.fault.isNone = true := by simp [h]
  rw [applyDelayedEi, hnone, Bool.true_and]
  have keeps : ∀ b e : Bool, ¬ (b && e) = true → (e && !b) = e := by decide
  split
  · next hpending =>
    obtain ⟨rfl, he⟩ : b = true ∧ s.eiPending = true := by simpa using hpending
    simp [he]
  · next hpending => rw [keeps b s.eiPending hpending, eq_false_of_ne_true hpending, Bool.or_false]

/-! ## The halt bug (R186) -/

theorem fetchOpcode_ok {s : State} (hs : s.Inv) (ha : s.accessible s.pc = true) :
    fetchOpcode s = .ok (s.readValue s.pc) (afterOpcodeRead (s.afterRead s.pc)) := by
  rw [fetchOpcode, memRead_ok hs ha, Res.ok_bind]

/-- The launch has no halt bug, and the latch is clear. -/
structure State.NoHaltBug (s : State) : Prop where
  param : s.params.haltBug = false
  latch : s.haltBug = false

theorem noHaltBug_busKeeps : BusKeeps (fun _ => True) State.NoHaltBug where
  tick t h := ⟨by simpa using h.param, by simpa using h.latch⟩
  read t a h := ⟨by simpa using h.param, by simpa using h.latch⟩
  write t a v _ h := ⟨by simpa using h.param, by simpa using h.latch⟩
  fault _ _ _ h := ⟨h.param, h.latch⟩

/-- HALT alone sets the latch, and not without the parameter (R452). -/
theorem exec_noHaltBug {i : Instr} {s t : State} (hi : i.WellFormed) (hs : s.NoHaltBug) (h : exec i s = .next t) :
    t.NoHaltBug := by
  obtain ⟨hlatches, -, hparams⟩ := exec_leavesControl hi h
  refine ⟨hparams ▸ hs.param, ?_⟩
  by_cases hhalt : i.form = .halt
  · rw [exec_eq_run hi, hhalt] at h
    cases h
    simpa [Form.run, halt, hs.param] using hs.latch
  · exact (hlatches.halt hhalt).2.trans hs.latch

/-- Along a step, faulting or not, nothing sets the latch. -/
theorem step_noHaltBug {s t : State} (hs : s.NoHaltBug) (h : step s = .next t) : t.haltBug = false := by
  have setSP (s : State) (v : Word) (h : s.NoHaltBug) : (s.setSP v).NoHaltBug := ⟨h.param, h.latch⟩
  have setPC (s : State) (v : Word) (h : s.NoHaltBug) : (s.setPC v).NoHaltBug := ⟨h.param, h.latch⟩
  have begun : (beginStep s).NoHaltBug := ⟨hs.param, hs.latch⟩
  have fetched : (fetchInstr (wake (beginStep s))).state.NoHaltBug :=
    noHaltBug_busKeeps.fetchInstr setPC (fun _ h => ⟨h.param, rfl⟩) ⟨hs.param, hs.latch⟩
  obtain ⟨-, ⟨-, rfl⟩ | ⟨-, rfl⟩ | ⟨-, hu⟩ | ⟨-, i, u, v, hi, hv, rfl⟩⟩ := step_cases h
  · exact (noHaltBug_busKeeps.serviceInterrupt setSP setPC (fun _ _ => trivial)
      (s := beginStep s) ⟨hs.param, rfl⟩).latch
  · exact (noHaltBug_busKeeps.tick _ begun).latch
  · rw [hu] at fetched
    exact fetched.latch
  · rw [hi] at fetched
    exact (applyDelayedEi_keeps _ v).2.trans (exec_noHaltBug (fetchInstr_isWhole hi) fetched hv).latch

/-! ## The harness (R195, R196) -/

theorem orKeep_eq_elim {w : Nat} (v : Option Nat) (old : BitVec w) : orKeep v old = v.elim old (BitVec.ofNat w) := by
  cases v <;> rfl

theorem hostPoke_of_refused {s : State} {a : Word} (v : Byte) (hstore : isStore a.toNat = false) (hie : a ≠ 0xFFFF)
    (hif : a ≠ 0xFF0F) : hostPoke a v s = none := by
  unfold hostPoke
  rw [if_neg (by simp [hstore])]
  split
  · next h => exact absurd (regionOf_eq_ie_iff.mp h) hie
  · exact if_neg hif
  · rfl

end Sys2Proof.Machine
end

section
/-! The statements about dispatch: the first byte, the fetch, the halted wait, the cost of a step, and the harness. -/

namespace Sys2Proof.Proofs

open Sys2Proof Sys2Proof.Machine

/-- Settles O3: what the first byte selects is assembled from it, and its encoding begins with it. -/
theorem everyByteSelectsOneInstruction : Obligations.EveryByteSelectsOneInstruction := by
  unfold Obligations.EveryByteSelectsOneInstruction
  intro b0 b1 b2 rest
  obtain ⟨c1, c2, hdecode⟩ := decode_three_append b0 b1 b2 rest
  exact ⟨assemble b0 c1 c2, assemble_isWhole b0 c1 c2, hdecode, encode_assemble_length b0 c1 c2,
    ⟨mem_unassignedOpcodes_of_form, fun h => assemble_unassigned h c1 c2⟩, assemble_form_eq_stop_iff b0 c1 c2⟩

/-- Settles O5: the step has nothing to do before the fetch, and EI's latch is what it was when the step began. -/
theorem stepRunsTheFetchedInstruction : Obligations.StepRunsTheFetchedInstruction := by
  unfold Obligations.StepRunsTheFetchedInstruction
  intro s hs
  rw [step_of_executes hs, executeInstruction]
  exact ⟨fun i t hi => by rw [hi]; rfl, fun t ht => by rw [ht]⟩

/-- Settles O7: the fetch by its read cycle; HALT alone sets the latch, and not without the parameter. -/
theorem opcodeFetchHonoursHaltBug : Obligations.OpcodeFetchHonoursHaltBug := by
  unfold Obligations.OpcodeFetchHonoursHaltBug
  refine ⟨fun s hs ha => ?_, fun s t hparam hlatch h => step_noHaltBug ⟨hparam, hlatch⟩ h⟩
  have hlatch : (s.afterRead s.pc).haltBug = s.haltBug := (noteRead_haltBug _ _).trans (ticked_haltBug s)
  rw [fetchOpcode_ok hs ha, afterOpcodeRead, hlatch, afterRead_pc]

/-- Settles O8: one read cycle fetches the byte, and the secondary instruction goes through in its form's M-cycles. -/
theorem escapeEntryRunsSecondary : Obligations.EscapeEntryRunsSecondary := by
  unfold Obligations.EscapeEntryRunsSecondary
  intro s hs hf ha j s'
  have hexec : exec .prefixCB s = exec j s' := by
    show execPrefixCB s = _
    rw [execPrefixCB, fetch8_ok hs ha]
    exact runSecondary_eq_exec _ _
  refine ⟨hexec, fun hallowed => ?_⟩
  have hs' : s'.Inv := setPC_inv (afterRead_inv hs _) _
  have hfault : s'.fault = s.fault := afterRead_fault hs _
  have hcycles : s'.cycles = s.cycles + 1 := afterRead_cycles _ _
  obtain ⟨t, ht, htf, hti, htc⟩ := exec_completes (secondary_isWhole _) (secondary_isFault _) hs' hallowed
  refine ⟨t, hexec.trans ht, htf.trans (hfault.trans hf), hti, ?_⟩
  rw [secondaryCost_eq _ s'.flags, htc, hcycles]
  omega

/-- Settles O9: with nothing pending the wait is one tick; else the step wakes the CPU first, halted or not. -/
theorem haltedStepIdlesOrWakes : Obligations.HaltedStepIdlesOrWakes := by
  unfold Obligations.HaltedStepIdlesOrWakes
  intro s hf hh
  refine ⟨fun hs hp => ⟨step_of_idles hs hf hh hp, by simp, by simp, by simp, by simp [hh]⟩, fun hp hime => ?_⟩
  have haccept : s.acceptsInterrupt = false := by simp [State.acceptsInterrupt, hime]
  have hidle : s.idles = false := by simp [State.idles, hp]
  exact (step_of_executes ⟨hf, haccept, hidle⟩).trans
    (step_of_executes (s := { s with halted := false }) ⟨hf, haccept, rfl⟩).symm

/-- Settles O14: without a fault, the end of an instruction looks at the two values of EI's latch alone. -/
theorem delayedEnableIsApplied : Obligations.DelayedEnableIsApplied := by
  unfold Obligations.DelayedEnableIsApplied
  intro s i t u hs hi hu hf
  rw [(stepRunsTheFetchedInstruction s hs).1 i t hi, hu, endInstruction, applyDelayedEi_of_noFault _ hf]

/-- Settles O33: a dispatch takes at most five cycles, the wait one, and an instruction a cycle for each byte and those
of its form. -/
theorem stepCostsOneToSixCycles : Obligations.StepCostsOneToSixCycles := by
  unfold Obligations.StepCostsOneToSixCycles
  intro s t h
  have hfetch := fetchInstr_cycles (wake (beginStep s))
  rw [wake_cycles, beginStep_cycles] at hfetch
  obtain ⟨-, ⟨-, rfl⟩ | ⟨-, rfl⟩ | ⟨-, hu⟩ | ⟨-, i, u, v, hi, hv, rfl⟩⟩ := step_cases h
  · have hdispatch := serviceInterrupt_takes (s := beginStep s)
    have hlt := hdispatch.lt_cycles
    have hle := hdispatch.cycles_le.2
    rw [acceptInterrupt_cycles, beginStep_cycles] at hlt hle
    omega
  · simp
  · rw [hu, Res.stop_state] at hfetch
    omega
  · have hlen : u.cycles = s.cycles + (encode i).length := (cycles_of_fetchInstr hi :)
    have hsix : (encode i).length + i.form.ticks u.flags ≤ 6 := i.form.length_add_ticks_le u.flags
    obtain ⟨hmono, hle⟩ := exec_cycles (fetchInstr_isWhole hi) hv
    rw [hi, Res.ok_state] at hfetch
    rw [(applyDelayedEi_keeps _ v).1]
    omega

/-- Settles O35: each field by itself, a poke by the row of its address, a peek by whether a read is allowed. -/
theorem harnessSetsAndReadsState : Obligations.HarnessSetsAndReadsState := by
  unfold Obligations.HarnessSetsAndReadsState
  refine ⟨fun s rec => ⟨?_, rfl⟩, fun s a v => ⟨fun h => if_pos h, ?_, ?_, hostPoke_of_refused v⟩,
    fun s a => ⟨fun h => if_pos h, fun h => if_neg (by simp [h])⟩⟩
  · have hf : (hostSetRegs rec s).regs.flags.toByte =
        rec.f.elim s.flags.toByte fun n => BitVec.ofNat 8 n &&& 0xF0 := by
      cases h : rec.f <;> simp [hostSetRegs, h, Flags.toByte_ofByte, State.flags]
    simp only [← orKeep_eq_elim, ← hf]
    rfl
  · rintro rfl
    rfl
  · rintro rfl
    rfl

end Sys2Proof.Proofs
end

section
/-! SUPPORT. The 8-bit loads (41_load8 R220 to R238): what the shared load and store operations do where their address may
be accessed, and how an instruction comes to run the operation of its form. -/

namespace Sys2Proof

open Sys2Proof.Machine

/-- An instruction known by its form runs that form; the escape byte's form alone has no run of its own (R188). -/
theorem exec_of_form {i : Instr} {f : Form} (h : i.form = f) (s : State) (hf : f ≠ .prefixCb := by nofun) :
    exec i s = (f.run s).finish := by
  have hi : i ≠ .prefixCB := by
    rintro rfl
    exact hf h.symm
  rw [← h]
  exact exec_eq_run (decide_eq_true hi) s

namespace Machine

/-- The high byte 0xFF and the low byte `v` have no bit in common, so joining them is adding them (R146). -/
theorem highPage_eq_add (v : Byte) : highPage v = 0xFF00 + v.setWidth 16 := by
  have hdisjoint : 0xFF00#16 &&& v.setWidth 16 = 0#16 := by
    revert v
    decide
  exact (BitVec.add_eq_or_of_and_eq_zero _ _ hdisjoint).symm

section
variable {i : Instr} {s : State} {a : Word}

theorem loadsFrom_of_loadReg {dst : R8} (hs : s.Inv) (h : exec i s = (loadReg dst a s).finish) :
    LoadsFrom i s dst a := by
  intro ha
  rw [h, loadReg, memRead_ok hs ha, Res.ok_bind, Res.ok_finish]

theorem storesTo_of_memWrite {v : Byte} (hs : s.Inv) (h : exec i s = (memWrite a v s).finish) : StoresTo i s a v := by
  intro ha
  rw [h, memWrite_ok hs ha, Res.ok_finish]

theorem loadAMoveHl_ok (hs : s.Inv) (ha : s.accessible (s.r16 .hl) = true) (d : Word) :
    loadAMoveHl d s =
      .ok () (((s.afterRead (s.r16 .hl)).setR8 .a (s.readValue (s.r16 .hl))).setR16 .hl (s.r16 .hl + d)) := by
  rw [loadAMoveHl, memRead_ok hs ha, Res.ok_bind]

theorem storeAMoveHl_ok (hs : s.Inv) (ha : s.accessible (s.r16 .hl) = true) (d : Word) :
    storeAMoveHl d s = .ok () ((s.afterWrite (s.r16 .hl) (s.r8 .a)).setR16 .hl (s.r16 .hl + d)) := by
  rw [storeAMoveHl, memWrite_ok hs ha, Res.ok_bind]

end

end Machine

end Sys2Proof
end

section
/-! The statements about the 8-bit loads. -/

namespace Sys2Proof.Proofs

open Sys2Proof Sys2Proof.Machine

/-- Settles O43: the two loads without an access are their form's run; each of the others is the shared load at the
address its rule gives. -/
theorem loadsIntoRegisters : Obligations.LoadsIntoRegisters := by
  unfold Obligations.LoadsIntoRegisters
  intro i s hs
  simp only [← highPage_eq_add]
  refine ⟨fun _ _ h => exec_of_form h s, fun _ _ h => exec_of_form h s, fun _ h => ?_, fun h => ?_, fun h => ?_,
    fun _ h => ?_, fun _ h => ?_, fun h => ?_⟩
  all_goals exact loadsFrom_of_loadReg hs (exec_of_form h s)

/-- Settles O44: each store is one write cycle of the source byte at the address its rule gives. -/
theorem storesToMemory : Obligations.StoresToMemory := by
  unfold Obligations.StoresToMemory
  intro i s hs
  simp only [← highPage_eq_add]
  refine ⟨fun _ h => ?_, fun _ h => ?_, fun h => ?_, fun h => ?_, fun _ h => ?_, fun _ h => ?_, fun h => ?_⟩
  all_goals exact storesTo_of_memWrite hs (exec_of_form h s)

/-- Settles O45: the access is at the HL of the state before, and HL then moves by 1 or by -1. -/
theorem accumulatorLoadsMoveHl : Obligations.AccumulatorLoadsMoveHl := by
  unfold Obligations.AccumulatorLoadsMoveHl
  intro i s hs ha
  rw [BitVec.sub_eq_add_neg]
  exact ⟨fun h => (exec_of_form h s).trans (congrArg Res.finish (loadAMoveHl_ok hs ha 1)),
    fun h => (exec_of_form h s).trans (congrArg Res.finish (loadAMoveHl_ok hs ha (-1))),
    fun h => (exec_of_form h s).trans (congrArg Res.finish (storeAMoveHl_ok hs ha 1)),
    fun h => (exec_of_form h s).trans (congrArg Res.finish (storeAMoveHl_ok hs ha (-1)))⟩

end Sys2Proof.Proofs
end

section
/-! SUPPORT. The 16-bit loads, the stack and the transfers that use it (R260 to R266, R416, R418): what each operation
does where its addresses may be accessed, and that a pop in RAM takes back what a push left there. -/

namespace Sys2Proof

open Sys2Proof.Machine

theorem exec_of_run_ok {i : Instr} {f : Form} {s t : State} (h : i.form = f) (hr : f.run s = .ok () t)
    (hf : f ≠ .prefixCb := by nofun) : exec i s = .next t := by
  rw [exec_of_form h s hf, hr, Res.ok_finish]

theorem eq_of_run_ok {i : Instr} {f : Form} {s t u : State} (h : i.form = f) (hr : f.run s = .ok () t)
    (hu : exec i s = .next u) (hf : f ≠ .prefixCb := by nofun) : t = u :=
  Host.Outcome.next.inj ((exec_of_run_ok h hr hf).symm.trans hu)

namespace Machine

/-! ## The pair of a PUSH and a POP -/

/-- A stack pair takes back its own value; for AF because F's low nibble is zero in it (R43, R44, R144). -/
@[simp] theorem setStk_stk_same (s t : State) (rr : R16Stk) : (s.setStk rr (t.stk rr)).stk rr = t.stk rr := by
  cases rr <;> simp [State.setStk, State.stk, Regs.setStk, Regs.getStk]

@[simp] theorem setStk_sp (s : State) (rr : R16Stk) (v : Word) : (s.setStk rr v).sp = s.sp := by cases rr <;> rfl

/-! ## Operations that complete -/

section
variable {s : State} (hs : s.Inv)
include hs

theorem ldSpHl_ok : ldSpHl s = .ok () (s.ticked.setSP (s.r16 .hl)) := by rw [ldSpHl, tick_ok hs, Res.ok_bind]

theorem ldAtNnSp_ok {nn : Word} (hlo : s.accessible nn = true) (hhi : s.accessible (nn + 1) = true) :
    ldAtNnSp nn s = .ok () ((s.afterWrite nn (loByte s.sp)).afterWrite (nn + 1) (hiByte s.sp)) := by
  have hhi : (s.afterWrite nn (loByte s.sp)).accessible (nn + 1) = true := by rwa [afterWrite_accessible]
  rw [ldAtNnSp, memWrite_ok hs hlo, Res.ok_bind, memWrite_ok (afterWrite_inv hs _ _) hhi]

/-- A push one internal cycle later (R264, R416). -/
theorem pushWord_ticked_ok (v : Word) (ha : ∀ a ∈ s.pushAddrs, s.accessible a = true) :
    pushWord v s.ticked = .ok () (s.ticked.afterPush v) := by
  refine pushWord_ok (ticked_inv hs) v fun a h => ?_
  rw [pushAddrs_of_regs (ticked_regs s)] at h
  rw [ticked_accessible, ha a h]

theorem push_ok (rr : R16Stk) (ha : ∀ a ∈ s.pushAddrs, s.accessible a = true) :
    push rr s = .ok () (s.ticked.afterPush (s.stk rr)) := by
  rw [push, tick_ok hs, Res.ok_bind, pushWord_ticked_ok hs _ ha]

theorem pop_ok (rr : R16Stk) (ha : ∀ a ∈ s.popAddrs, s.accessible a = true) :
    pop rr s = .ok () (s.afterPop.setStk rr s.popValue) := by
  rw [pop, popWord_ok hs ha, Res.ok_bind]

theorem callTo_ok (target : Word) (ha : ∀ a ∈ s.pushAddrs, s.accessible a = true) :
    callTo target s = .ok () ((s.ticked.afterPush s.pc).setPC target) := by
  rw [callTo, tick_ok hs, Res.ok_bind, pushWord_ticked_ok hs _ ha, Res.ok_bind]

theorem returnToCaller_ok (ha : ∀ a ∈ s.popAddrs, s.accessible a = true) :
    returnToCaller s = .ok () (s.afterPop.ticked.setPC s.popValue) := by
  rw [returnToCaller, popWord_ok hs ha, Res.ok_bind, tick_ok (afterPop_inv hs), Res.ok_bind]

end

/-! ## The stack in RAM -/

@[simp] theorem afterPush_sp (s : State) (v : Word) : (s.afterPush v).sp = s.sp - 2 := by simp [State.afterPush]

@[simp] theorem afterPop_sp (s : State) : s.afterPop.sp = s.sp + 2 := by simp [State.afterPop]

theorem sub_two_add_one (w : Word) : w - 2 + 1 = w - 1 := by bv_omega

theorem isStore_of_isRam {n : Nat} (h : isRam n = true) : isStore n = true := by simp [isStore, h]

theorem afterWrite_mem_of_ram (s : State) {a : Word} (v : Byte) (h : isRam a.toNat = true) :
    (s.afterWrite a v).mem = s.mem.write a.toNat v := by
  rw [State.afterWrite, busStore_of_ram _ v h, storeByte, ticked_mem]

/-- What a pop from the stores returns is two bytes of memory: its cycles change none. -/
theorem popValue_of_stores {s : State} (h : ∀ a ∈ s.popAddrs, isStore a.toNat = true) :
    s.popValue = ofBytes (s.mem.read (s.sp + 1).toNat) (s.mem.read s.sp.toNat) := by
  have hlo : isStore s.sp.toNat = true := h _ (by simp [State.popAddrs])
  have hhi : isStore (s.sp + 1).toNat = true := h _ (by simp [State.popAddrs])
  rw [State.popValue, readValue_of_store _ hlo, readValue_of_store _ hhi, setSP_mem, afterRead_mem]

section
variable {s t : State} {v : Word} (hram : ∀ a ∈ s.pushAddrs, isRam a.toNat = true)
include hram

theorem afterPush_mem_of_ram (v : Word) :
    (s.afterPush v).mem = (s.mem.write (s.sp - 1).toNat (hiByte v)).write (s.sp - 2).toNat (loByte v) := by
  have hhi : isRam (s.sp - 1).toNat = true := hram _ (by simp [State.pushAddrs])
  have hlo : isRam (s.sp - 2).toNat = true := hram _ (by simp [State.pushAddrs])
  rw [State.afterPush, afterWrite_mem_of_ram _ _ hlo, setSP_mem, afterWrite_mem_of_ram _ _ hhi, setSP_mem]

/-- With SP where a push left it, the two addresses of a pop are those of the push, in the other order. -/
theorem popAddrs_isStore (hsp : t.sp = s.sp - 2) : ∀ a ∈ t.popAddrs, isStore a.toNat = true := by
  intro a ha
  have hpush : a ∈ s.pushAddrs := by
    rw [State.popAddrs, hsp, sub_two_add_one] at ha
    simpa [State.pushAddrs, or_comm] using ha
  exact isStore_of_isRam (hram a hpush)

theorem popAddrs_accessible (hsp : t.sp = s.sp - 2) : ∀ a ∈ t.popAddrs, t.accessible a = true := fun a ha =>
  accessible_of_store t (popAddrs_isStore hram hsp a ha)

/-- With SP and memory as a push left them, a pop returns what was pushed (R260). -/
theorem popValue_of_pushed (hs : s.Inv) (hsp : t.sp = s.sp - 2) (hmem : t.mem = (s.afterPush v).mem) :
    t.popValue = v := by
  have hne : (s.sp - 1).toNat ≠ (s.sp - 2).toNat := by bv_omega
  have hwf : (s.mem.write (s.sp - 1).toNat (hiByte v)).wf = true := Memory.wf_write _ _ hs.mem_wf
  rw [popValue_of_stores (popAddrs_isStore hram hsp), hsp, hmem, afterPush_mem_of_ram hram, sub_two_add_one,
    Memory.read_write hwf, if_neg hne, Memory.read_write hs.mem_wf, if_pos rfl, Memory.read_write hwf, if_pos rfl,
    ofBytes_halves]

end

end Machine

end Sys2Proof
end

section
/-! The statements about the 16-bit loads and the stack. -/

namespace Sys2Proof.Proofs

open Sys2Proof Sys2Proof.Machine

/-- Settles O46: each form runs its shared operation, whose cycles all complete at the addresses assumed accessible. -/
theorem sixteenBitLoadsAndStack : Obligations.SixteenBitLoadsAndStack := by
  unfold Obligations.SixteenBitLoadsAndStack
  intro i s hs
  exact ⟨fun _ _ h => exec_of_form h s,
    fun h => exec_of_run_ok h (ldSpHl_ok hs),
    fun _ h hlo hhi => exec_of_run_ok h (ldAtNnSp_ok hs hlo hhi),
    fun rr h ha => exec_of_run_ok h (push_ok hs rr ha),
    fun rr h ha => exec_of_run_ok h (pop_ok hs rr ha)⟩

/-- Settles O59: the second instruction pops from the two RAM bytes that the first one pushed, with SP 2 below. -/
theorem stackRoundTrips : Obligations.StackRoundTrips := by
  unfold Obligations.StackRoundTrips
  intro i j s t u hs hram hi hj
  have hpushAcc : ∀ a ∈ s.pushAddrs, s.accessible a = true := fun a ha =>
    accessible_of_store s (isStore_of_isRam (hram a ha))
  have htram : ∀ a ∈ s.ticked.pushAddrs, isRam a.toNat = true := pushAddrs_of_regs (ticked_regs s) ▸ hram
  have hti : s.ticked.Inv := ticked_inv hs
  constructor
  · intro rr hpush hpop
    obtain rfl := eq_of_run_ok hpush (push_ok hs rr hpushAcc) hi
    have hsp : (s.ticked.afterPush (s.stk rr)).sp = s.ticked.sp - 2 := afterPush_sp _ _
    have hpopAcc := popAddrs_accessible htram hsp
    obtain rfl := eq_of_run_ok hpop (pop_ok (afterPush_inv hti _) rr hpopAcc) hj
    rw [popValue_of_pushed htram hti hsp rfl]
    exact ⟨setStk_stk_same _ s rr, by simp⟩
  · intro nn hcall hret
    obtain rfl := eq_of_run_ok hcall (callTo_ok hs nn hpushAcc) hi
    have hsp : ((s.ticked.afterPush s.pc).setPC nn).sp = s.ticked.sp - 2 := by simp
    have hpopAcc := popAddrs_accessible htram hsp
    have htinv := setPC_inv (afterPush_inv hti s.pc) nn
    obtain rfl := eq_of_run_ok hret (returnToCaller_ok htinv hpopAcc) hj
    exact ⟨popValue_of_pushed htram hti hsp rfl, by simp⟩

end Sys2Proof.Proofs
end

section
/-! SUPPORT. 8-bit arithmetic and logic (43_alu8 R290 to R304): sums, differences and INC and DEC in exact arithmetic, the
operations at HL where it may be accessed, and DAA with its corrections, in general and on packed decimal bytes. -/

namespace Sys2Proof.Machine

open Sys2Proof

/-! ## Exact sums and differences -/

theorem ofNat8_eq_zero_iff (n : Nat) : BitVec.ofNat 8 n = 0 ↔ n % 256 = 0 := by
  rw [← BitVec.toNat_inj, BitVec.toNat_ofNat]
  rfl

theorem ofInt8_eq_zero_iff (n : Int) : BitVec.ofInt 8 n = 0 ↔ n % 256 = 0 := by
  rw [← BitVec.toNat_inj, BitVec.toNat_ofInt]
  change (n % 256).toNat = 0 ↔ n % 256 = 0
  omega

theorem sub_sub_ofNat_eq_ofInt (a v : Byte) (k : Nat) :
    a - v - BitVec.ofNat 8 k = BitVec.ofInt 8 ((a.toNat : Int) - v.toNat - k) := by
  apply BitVec.eq_of_toNat_eq
  rw [BitVec.toNat_ofInt]
  bv_omega

theorem flagNat_le_one (c : Bool) : flagNat c ≤ 1 := by cases c <;> decide

theorem add8_eq_exact (a v : Byte) (c : Bool) : add8 a v c =
    (BitVec.ofNat 8 (a.toNat + v.toNat + flagNat c),
      { z := decide ((a.toNat + v.toNat + flagNat c) % 256 = 0), n := false,
        h := decide (a.toNat % 16 + v.toNat % 16 + flagNat c > 0xF),
        c := decide (a.toNat + v.toNat + flagNat c > 0xFF) }) := by
  simp only [add8, ofNat8_eq_zero_iff]

theorem sub8_eq_exact (a v : Byte) (c : Bool) : sub8 a v c =
    (BitVec.ofInt 8 ((a.toNat : Int) - v.toNat - flagNat c),
      { z := decide (((a.toNat : Int) - v.toNat - flagNat c) % 256 = 0), n := true,
        h := decide (a.toNat % 16 < v.toNat % 16 + flagNat c),
        c := decide (a.toNat < v.toNat + flagNat c) }) := by
  simp only [sub8, sub_sub_ofNat_eq_ofInt, ofInt8_eq_zero_iff]

/-! ## INC and DEC -/

theorem and_lowNibble_toNat (v : Byte) : (v &&& 0xF).toNat = v.toNat % 16 := by
  rw [BitVec.toNat_and]
  exact Nat.and_two_pow_sub_one_eq_mod v.toNat 4

/-- INC's Z and H, seen on the old value (R300). -/
theorem inc8_eq (old : Byte) (f : Flags) : inc8 old f =
    (old + 1, { f with z := decide (old = 0xFF), n := false, h := decide (old &&& 0xF = 0xF) }) := by
  have hz : old + 1 = 0 ↔ old = 0xFF := by bv_omega
  have hh : old &&& 0xF = 0xF ↔ old.toNat % 16 = 0xF := by rw [← BitVec.toNat_inj, and_lowNibble_toNat]; rfl
  simp only [inc8, hz, hh]

/-- DEC's Z and H, seen on the old value (R302). -/
theorem dec8_eq (old : Byte) (f : Flags) : dec8 old f =
    (old - 1, { f with z := decide (old = 0x01), n := true, h := decide (old &&& 0xF = 0) }) := by
  have hz : old - 1 = 0 ↔ old = 0x01 := by bv_omega
  have hh : old &&& 0xF = 0 ↔ old.toNat % 16 = 0 := by rw [← BitVec.toNat_inj, and_lowNibble_toNat]; rfl
  simp only [dec8, hz, hh]

theorem modifyReg_ok {s : State} {r : R8} {op : Byte → Flags → Byte × Flags} {v : Byte} {f : Flags}
    (hop : op (s.r8 r) s.flags = (v, f)) : modifyReg op r s = .ok () ((s.setR8 r v).setFlags f) := by
  rw [modifyReg, hop]

/-! ## The operations at HL -/

section
variable {s : State} (hs : s.Inv) (ha : s.accessible (s.r16 .hl) = true)
include hs ha

theorem aluAtHl_ok (op : AluOp) : aluAtHl op s = .ok () ((s.afterRead (s.r16 .hl)).setAF
    (aluResult op (s.r8 .a) (s.readValue (s.r16 .hl)) s.flags.c)) := by
  rw [aluAtHl, memRead_ok hs ha, Res.ok_bind, aluWith, afterRead_r8, afterRead_flags]

theorem modifyAtHl_ok {op : Byte → Flags → Byte × Flags} {v : Byte} {f : Flags}
    (hop : op (s.readValue (s.r16 .hl)) s.flags = (v, f)) :
    modifyAtHl op s = .ok () (((s.afterRead (s.r16 .hl)).afterWrite (s.r16 .hl) v).setFlags f) := by
  have hwrite : (s.afterRead (s.r16 .hl)).accessible (s.r16 .hl) = true := by rwa [afterRead_accessible]
  rw [modifyAtHl, memRead_ok hs ha, Res.ok_bind, hop, memWrite_ok (afterRead_inv hs _) hwrite, Res.ok_bind]

end

/-! ## DAA (R304) -/

theorem daaResult_fst_of_add {a : Byte} {f : Flags} (hn : f.n = false) : (daaResult a f).1 =
    BitVec.ofNat 8 (a.toNat + (if f.c = true ∨ a.toNat > 0x99 then 0x60 else 0) +
      (if f.h = true ∨ a.toNat % 16 > 0x09 then 0x06 else 0)) := by
  simp [daaResult, hn, BitVec.ofNat_add, apply_ite (BitVec.ofNat 8)]

theorem daaResult_fst_of_sub {a : Byte} {f : Flags} (hn : f.n = true) : (daaResult a f).1 =
    BitVec.ofInt 8 ((a.toNat : Int) - (if f.c then 0x60 else 0) - (if f.h then 0x06 else 0)) := by
  simp only [daaResult, hn]
  cases f.c <;> cases f.h <;> simp <;> bv_omega

/-- The flags after DAA: C is kept after a subtraction, and is the high correction after an addition. -/
theorem daaResult_snd (a : Byte) (f : Flags) : (daaResult a f).2 =
    { f with z := decide ((daaResult a f).1 = 0), h := false,
             c := if f.n then f.c else decide (f.c = true ∨ a.toNat > 0x99) } := by
  cases hn : f.n <;> simp [daaResult, hn]

/-! ## Packed decimal bytes -/

/-- The byte whose two nibbles are the decimal digits of `n`, as `DecimalAdjustIsDecimalArithmetic` packs it. -/
def packDecimal (n : Nat) : Byte := BitVec.ofNat 8 (16 * (n / 10) + n % 10)

theorem packDecimal_toNat {n : Nat} (h : n < 100) : (packDecimal n).toNat = 16 * (n / 10) + n % 10 := by
  rw [packDecimal, BitVec.toNat_ofNat]
  omega

section
variable {x y : Nat} (hx : x < 100) (hy : y < 100) {c : Bool} {r : Byte × Flags}
include hx hy

/-- After an addition of packed bytes, DAA corrects the low digit exactly when the sum of the low digits carries. -/
theorem low_correction_iff (hr : r = add8 (packDecimal x) (packDecimal y) c) :
    (r.2.h = true ∨ r.1.toNat % 16 > 0x09) ↔ 9 < x % 10 + y % 10 + flagNat c := by
  have hc := flagNat_le_one c
  rw [hr, add8_eq_exact]
  simp only [packDecimal_toNat hx, packDecimal_toNat hy, BitVec.toNat_ofNat, decide_eq_true_eq]
  omega

/-- After an addition of packed bytes, DAA corrects the high digit exactly when the decimal sum carries. -/
theorem high_correction_iff (hr : r = add8 (packDecimal x) (packDecimal y) c) :
    (r.2.c = true ∨ r.1.toNat > 0x99) ↔ 100 ≤ x + y + flagNat c := by
  have hc := flagNat_le_one c
  have hdigits : x / 10 + y / 10 ≤ 9 ∨ 10 ≤ x / 10 + y / 10 := by omega
  have hexceeds : 0x99 < (packDecimal x).toNat + (packDecimal y).toNat + flagNat c ↔ 100 ≤ x + y + flagNat c := by
    rw [packDecimal_toNat hx, packDecimal_toNat hy]
    omega
  rw [hr, add8_eq_exact, ← hexceeds]
  simp only [BitVec.toNat_ofNat, decide_eq_true_eq]
  omega

theorem daaResult_of_add8 (hr : r = add8 (packDecimal x) (packDecimal y) c) :
    (daaResult r.1 r.2).1 = packDecimal ((x + y + flagNat c) % 100) ∧
    (daaResult r.1 r.2).2.c = decide (100 ≤ x + y + flagNat c) := by
  have hc := flagNat_le_one c
  have hn : r.2.n = false := by rw [hr, add8_eq_exact]
  have hsum : r.1.toNat = (16 * (x / 10) + x % 10 + (16 * (y / 10) + y % 10) + flagNat c) % 256 := by
    rw [hr, add8_eq_exact, BitVec.toNat_ofNat, packDecimal_toNat hx, packDecimal_toNat hy]
  constructor
  · apply BitVec.eq_of_toNat_eq
    rw [daaResult_fst_of_add hn, packDecimal_toNat (Nat.mod_lt _ (by decide)), BitVec.toNat_ofNat]
    simp only [low_correction_iff hx hy hr, high_correction_iff hx hy hr]
    rw [hsum]
    split_ifs <;> omega
  · simp only [daaResult_snd, hn, high_correction_iff hx hy hr, Bool.false_eq_true, if_false]

theorem daaResult_of_sub8 (hr : r = sub8 (packDecimal x) (packDecimal y) c) :
    (daaResult r.1 r.2).1 = packDecimal ((x + 200 - y - flagNat c) % 100) ∧
    (daaResult r.1 r.2).2.c = decide (x < y + flagNat c) := by
  have hc := flagNat_le_one c
  have hn : r.2.n = true := by rw [hr, sub8_eq_exact]
  have hlow : r.2.h = decide (x % 10 < y % 10 + flagNat c) := by
    rw [hr, sub8_eq_exact, packDecimal_toNat hx, packDecimal_toNat hy, decide_eq_decide]
    omega
  have hhigh : r.2.c = decide (x < y + flagNat c) := by
    rw [hr, sub8_eq_exact, packDecimal_toNat hx, packDecimal_toNat hy, decide_eq_decide]
    omega
  have hdiff : (r.1.toNat : Int) =
      ((16 * (x / 10) + x % 10 : Nat) - (16 * (y / 10) + y % 10 : Nat) - (flagNat c : Int)) % 256 := by
    rw [hr, sub8_eq_exact, BitVec.toNat_ofInt, packDecimal_toNat hx, packDecimal_toNat hy]
    omega
  constructor
  · apply BitVec.eq_of_toNat_eq
    rw [daaResult_fst_of_sub hn, packDecimal_toNat (Nat.mod_lt _ (by decide)), BitVec.toNat_ofInt]
    simp only [hlow, hhigh, hdiff, decide_eq_true_eq]
    split_ifs <;> omega
  · rw [daaResult_snd, hn, if_pos rfl, hhigh]

end

end Sys2Proof.Machine
end

section
/-! The statements about 8-bit arithmetic and logic. -/

namespace Sys2Proof.Proofs

open Sys2Proof Sys2Proof.Machine

/-- Settles O47: the register and immediate forms are their form's run; at HL the read cycle comes first and leaves A and
the flags that the operation takes. -/
theorem accumulatorOperandForms : Obligations.AccumulatorOperandForms := by
  unfold Obligations.AccumulatorOperandForms
  intro i s op hs
  exact ⟨fun _ h => exec_of_form h s, fun _ h => exec_of_form h s,
    fun h ha => exec_of_run_ok h (aluAtHl_ok hs ha op)⟩

/-- Settles O48: the sums and differences are the exact ones narrowed to a byte; the logic operations stand in the model
as in the statement. -/
theorem accumulatorResultsAndFlags : Obligations.AccumulatorResultsAndFlags := by
  unfold Obligations.AccumulatorResultsAndFlags
  intro a v c
  have hsub := sub8_eq_exact a v false
  exact ⟨add8_eq_exact a v false, add8_eq_exact a v c, hsub, sub8_eq_exact a v c, rfl, rfl, rfl,
    congrArg (fun r => (a, r.2)) hsub⟩

/-- Settles O49: a register is changed in place, the byte at HL by a read and a write cycle; Z and H are those of the old
value by `inc8_eq` and `dec8_eq`. -/
theorem incrementAndDecrementResults : Obligations.IncrementAndDecrementResults := by
  unfold Obligations.IncrementAndDecrementResults
  intro i s hs
  exact ⟨fun _ h => exec_of_run_ok h (modifyReg_ok (inc8_eq _ _)),
    fun _ h => exec_of_run_ok h (modifyReg_ok (dec8_eq _ _)),
    fun ha => ⟨fun h => exec_of_run_ok h (modifyAtHl_ok hs ha (inc8_eq _ _)),
      fun h => exec_of_run_ok h (modifyAtHl_ok hs ha (dec8_eq _ _))⟩⟩

/-- Settles O50: DAA by the flag N, which says whether its corrections are added or subtracted; CPL's exclusive or with
0xFF is the complement; SCF and CCF are their form's run. -/
theorem accumulatorAdjustAndCarryResults : Obligations.AccumulatorAdjustAndCarryResults := by
  unfold Obligations.AccumulatorAdjustAndCarryResults
  intro i s
  refine ⟨fun h => ?_, fun h => ?_, fun h => exec_of_form h s, fun h => exec_of_form h s⟩
  · rw [exec_of_form h]
    change Host.Outcome.next ((s.setR8 .a _).setFlags (daaResult (s.r8 .a) s.flags).2) = _
    rw [daaResult_snd]
    cases hn : s.flags.n with
    | false => rw [daaResult_fst_of_add hn]; rfl
    | true => rw [daaResult_fst_of_sub hn]; rfl
  · rw [← BitVec.xor_allOnes]
    exact exec_of_form h s

/-- Settles O51: after an addition DAA corrects the digits that carry, after a subtraction those that borrow. -/
theorem decimalAdjustIsDecimalArithmetic : Obligations.DecimalAdjustIsDecimalArithmetic := by
  unfold Obligations.DecimalAdjustIsDecimalArithmetic
  intro x y c hx hy
  obtain ⟨hsum, hcarry⟩ := daaResult_of_add8 hx hy (c := c) rfl
  obtain ⟨hdiff, hborrow⟩ := daaResult_of_sub8 hx hy (c := c) rfl
  exact ⟨hsum, hcarry, hdiff, hborrow⟩

end Sys2Proof.Proofs
end

section
/-! SUPPORT. 16-bit arithmetic (44_alu16 R340 to R343, 42_load16 R267): the results in exact arithmetic, and what each
operation does from a state that meets the invariant, where every tick goes through. -/

namespace Sys2Proof.Machine

open Sys2Proof

/-! ## Exact results -/

theorem addHlResult_eq_exact (h v : Word) (f : Flags) : addHlResult h v f =
    (BitVec.ofNat 16 (h.toNat + v.toNat),
      { f with n := false, h := decide (h.toNat % 4096 + v.toNat % 4096 > 0x0FFF),
               c := decide (h.toNat + v.toNat > 0xFFFF) }) := by
  rw [addHlResult, BitVec.ofNat_add, BitVec.ofNat_toNat, BitVec.ofNat_toNat, BitVec.setWidth_eq, BitVec.setWidth_eq]

theorem add_sext16_eq_ofInt (w : Word) (e : Byte) : w + sext16 e = BitVec.ofInt 16 ((w.toNat : Int) + e.toInt) := by
  rw [sext16, BitVec.signExtend, BitVec.ofInt_add, BitVec.ofInt_natCast, BitVec.ofNat_toNat, BitVec.setWidth_eq]

theorem addSpResult_eq_exact (sp : Word) (e : Byte) : addSpResult sp e =
    (BitVec.ofInt 16 ((sp.toNat : Int) + e.toInt),
      { z := false, n := false, h := decide (sp.toNat % 16 + e.toNat % 16 > 0x0F),
        c := decide (sp.toNat % 256 + e.toNat > 0xFF) }) := by
  rw [addSpResult, add_sext16_eq_ofInt]

/-! ## Operations that complete -/

section
variable {s : State} (hs : s.Inv) {f : Flags} {w : Word}
include hs

theorem addHl_ok {rr : R16} (hr : addHlResult (s.r16 .hl) (s.r16 rr) s.flags = (w, f)) :
    addHl rr s = .ok () ((s.ticked.setR16 .hl w).setFlags f) := by
  rw [addHl, tick_ok hs, Res.ok_bind, hr]

theorem incPair_ok (rr : R16) : incPair rr s = .ok () (s.ticked.setR16 rr (s.r16 rr + 1)) := by
  rw [incPair, tick_ok hs, Res.ok_bind]

theorem decPair_ok (rr : R16) : decPair rr s = .ok () (s.ticked.setR16 rr (s.r16 rr - 1)) := by
  rw [decPair, tick_ok hs, Res.ok_bind]

theorem addSpE_ok {e : Byte} (hr : addSpResult s.sp e = (w, f)) :
    addSpE e s = .ok () ((s.ticked.ticked.setSP w).setFlags f) := by
  rw [addSpE, tick_ok hs, Res.ok_bind, tick_ok (ticked_inv hs), Res.ok_bind, hr]

theorem ldHlSpE_ok {e : Byte} (hr : addSpResult s.sp e = (w, f)) :
    ldHlSpE e s = .ok () ((s.ticked.setR16 .hl w).setFlags f) := by
  rw [ldHlSpE, tick_ok hs, Res.ok_bind, hr]

end

end Sys2Proof.Machine
end

section
/-! The statements about 16-bit arithmetic. -/

namespace Sys2Proof.Proofs

open Sys2Proof Sys2Proof.Machine

/-- Settles O52: the ticks of each form go through, and both additions are exact sums narrowed to a word. -/
theorem sixteenBitArithmeticResults : Obligations.SixteenBitArithmeticResults := by
  unfold Obligations.SixteenBitArithmeticResults
  intro i s hs
  exact ⟨fun _ h => exec_of_run_ok h (addHl_ok hs (addHlResult_eq_exact _ _ _)),
    fun rr h => exec_of_run_ok h (incPair_ok hs rr),
    fun rr h => exec_of_run_ok h (decPair_ok hs rr),
    fun _ => ⟨fun h => exec_of_run_ok h (addSpE_ok hs (addSpResult_eq_exact _ _)),
      fun h => exec_of_run_ok h (ldHlSpE_ok hs (addSpResult_eq_exact _ _))⟩⟩

end Sys2Proof.Proofs
end

section
/-! SUPPORT. Rotates and shifts (45_rotate_shift R360 to R372): the bytes that a shift and an or put together, and the bit
that leaves one, in exact arithmetic; and the form at HL where it may be accessed. -/

namespace Sys2Proof.Machine

open Sys2Proof

/-! ## Exact results -/

/-- A byte below the bits that a left shift vacates is joined to it by addition: every rotate is such a join. -/
theorem shiftLeft_or_eq_ofNat (v : Byte) {k : Nat} {y : Byte} (hy : y.toNat < 2 ^ k) :
    (v <<< k) ||| y = BitVec.ofNat 8 (2 ^ k * v.toNat + y.toNat) := by
  apply BitVec.eq_of_toNat_eq
  have hlow : y.toNat = y.toNat % 2 ^ 8 := (Nat.mod_eq_of_lt y.isLt).symm
  calc ((v <<< k) ||| y).toNat
      = (v.toNat <<< k) % 2 ^ 8 ||| y.toNat % 2 ^ 8 := by rw [BitVec.toNat_or, BitVec.toNat_shiftLeft, ← hlow]
    _ = (v.toNat <<< k + y.toNat) % 2 ^ 8 := by rw [← Nat.or_mod_two_pow, Nat.shiftLeft_add_eq_or_of_lt hy]
    _ = (BitVec.ofNat 8 (2 ^ k * v.toNat + y.toNat)).toNat := by
      rw [BitVec.toNat_ofNat, Nat.shiftLeft_eq, Nat.mul_comm]

theorem ushiftRight_toNat (v : Byte) (k : Nat) : (v >>> k).toNat = v.toNat / 2 ^ k := by
  rw [BitVec.toNat_ushiftRight, Nat.shiftRight_eq_div_pow]

theorem flagByte_toNat (c : Bool) : (BitVec.ofNat 8 (flagNat c)).toNat = flagNat c := by cases c <;> rfl

/-- The sign bit in its place is the top bit shifted out and back (R370). -/
theorem and_signBit_eq_shifts (v : Byte) : v &&& (0x80 : Byte) = (v >>> 7) <<< 7 := by
  revert v
  decide

theorem getLsbD_seven_eq_decide (v : Byte) : v.getLsbD 7 = decide (128 ≤ v.toNat) := BitVec.msb_eq_decide v

theorem getLsbD_zero_eq_decide (v : Byte) : v.getLsbD 0 = decide (v.toNat % 2 = 1) := Nat.testBit_zero v.toNat

/-- A shift to the left by one place, with a bit `b` put in from below. -/
theorem shiftLeft_one_or (v : Byte) {b : Byte} (hb : b.toNat < 2) :
    (v <<< 1) ||| b = BitVec.ofNat 8 (2 * v.toNat + b.toNat) := shiftLeft_or_eq_ofNat v hb

/-- A shift to the right by one place, with a bit `b` put in from above. -/
theorem ushiftRight_one_or (v b : Byte) :
    (v >>> 1) ||| (b <<< 7) = BitVec.ofNat 8 (v.toNat / 2 + 128 * b.toNat) := by
  have hv : (v >>> 1).toNat = v.toNat / 2 := ushiftRight_toNat v 1
  rw [BitVec.or_comm, shiftLeft_or_eq_ofNat b (k := 7) (by omega), hv, Nat.add_comm]
  rfl

section
variable (v : Byte) (c : Bool)

theorem rotate_rlc_eq_exact : rotate .rlc v c =
    (BitVec.ofNat 8 (2 * v.toNat + v.toNat / 128), decide (128 ≤ v.toNat)) := by
  have htop : (v >>> 7).toNat = v.toNat / 128 := ushiftRight_toNat v 7
  rw [rotate, shiftLeft_one_or v (by omega), htop, getLsbD_seven_eq_decide]

theorem rotate_rrc_eq_exact : rotate .rrc v c =
    (BitVec.ofNat 8 (v.toNat / 2 + 128 * (v.toNat % 2)), decide (v.toNat % 2 = 1)) := by
  have hlow : (v &&& 1).toNat = v.toNat % 2 := Nat.and_one_is_mod v.toNat
  rw [rotate, ushiftRight_one_or, hlow, getLsbD_zero_eq_decide]

theorem rotate_rl_eq_exact : rotate .rl v c =
    (BitVec.ofNat 8 (2 * v.toNat + flagNat c), decide (128 ≤ v.toNat)) := by
  have hc : (BitVec.ofNat 8 (flagNat c)).toNat < 2 := by rw [flagByte_toNat]; exact Nat.lt_succ_of_le (flagNat_le_one c)
  rw [rotate, shiftLeft_one_or v hc, flagByte_toNat, getLsbD_seven_eq_decide]

theorem rotate_rr_eq_exact : rotate .rr v c =
    (BitVec.ofNat 8 (v.toNat / 2 + 128 * flagNat c), decide (v.toNat % 2 = 1)) := by
  rw [rotate, ushiftRight_one_or, flagByte_toNat, getLsbD_zero_eq_decide]

theorem rotate_sla_eq_exact : rotate .sla v c = (BitVec.ofNat 8 (2 * v.toNat), decide (128 ≤ v.toNat)) := by
  have hshift : v <<< 1 = BitVec.ofNat 8 (2 * v.toNat) := by
    rw [← BitVec.or_zero (x := v <<< 1)]
    exact shiftLeft_one_or v (b := 0) (by decide)
  rw [rotate, hshift, getLsbD_seven_eq_decide]

theorem rotate_sra_eq_exact : rotate .sra v c =
    (BitVec.ofNat 8 (v.toNat / 2 + 128 * (v.toNat / 128)), decide (v.toNat % 2 = 1)) := by
  have htop : (v >>> 7).toNat = v.toNat / 128 := ushiftRight_toNat v 7
  rw [rotate, and_signBit_eq_shifts, ushiftRight_one_or, htop, getLsbD_zero_eq_decide]

theorem rotate_swap_eq_exact : rotate .swap v c =
    (BitVec.ofNat 8 (16 * (v.toNat % 16) + v.toNat / 16), false) := by
  have hhigh : (v >>> 4).toNat = v.toNat / 16 := ushiftRight_toNat v 4
  have hlow : (v &&& 0x0F).toNat = v.toNat % 16 := and_lowNibble_toNat v
  rw [rotate, shiftLeft_or_eq_ofNat _ (k := 4) (by omega), hhigh, hlow]
  rfl

theorem rotate_srl_eq_exact : rotate .srl v c = (BitVec.ofNat 8 (v.toNat / 2), decide (v.toNat % 2 = 1)) := by
  have hshift : v >>> 1 = BitVec.ofNat 8 (v.toNat / 2) := by
    rw [← pow_one 2, ← ushiftRight_toNat, BitVec.ofNat_toNat, BitVec.setWidth_eq]
  rw [rotate, hshift, getLsbD_zero_eq_decide]

end

/-! ## The form at HL (R364) -/

/-- A write does not look at the register file. -/
theorem busStore_withRegs (s : State) (a : Word) (v : Byte) (g : Regs) :
    ({ s with regs := g } : State).busStore a v = { s.busStore a v with regs := g } := by
  have hreg : ({ s with regs := g } : State).regAt a = s.regAt a := rfl
  unfold State.busStore
  rw [hreg]
  split
  case h_1 => split <;> rfl
  case h_7 =>
    split
    · next r _ =>
      cases r with
      | div | tac => simp only [writeReg, applyTimer]; split <;> rfl
      | _ => rfl
    · rfl
  all_goals rfl

/-- The flags of a read-modify-write may be written before its write cycle or after it (log entry 6). -/
theorem afterWrite_setFlags {s : State} (hs : s.Inv) (a : Word) (v : Byte) (f : Flags) :
    (s.setFlags f).afterWrite a v = (s.afterWrite a v).setFlags f := by
  unfold State.afterWrite State.setFlags
  rw [ticked_withRegs hs, busStore_withRegs, busStore_regs, ticked_regs]

theorem rotAtHl_ok {s : State} (hs : s.Inv) (ha : s.accessible (s.r16 .hl) = true) {op : RotOp} {v : Byte} {f : Flags}
    (hop : rotResult op (s.readValue (s.r16 .hl)) s.flags = (v, f)) :
    rotAtHl op s = .ok () (((s.afterRead (s.r16 .hl)).afterWrite (s.r16 .hl) v).setFlags f) := by
  have hread : (s.afterRead (s.r16 .hl)).Inv := afterRead_inv hs _
  have hwrite : (s.afterRead (s.r16 .hl)).accessible (s.r16 .hl) = true := by rwa [afterRead_accessible]
  rw [rotAtHl, memRead_ok hs ha, Res.ok_bind, hop, memWrite_ok (setFlags_inv hread f) hwrite, afterWrite_setFlags hread]

end Sys2Proof.Machine
end

section
/-! The statements about rotates and shifts. -/

namespace Sys2Proof.Proofs

open Sys2Proof Sys2Proof.Machine

/-- Settles O53: each operation joins a shifted byte to bits it does not overlap, which is an addition; the outgoing carry
is the bit the shift drops. -/
theorem rotateResultsAndCarry : Obligations.RotateResultsAndCarry := by
  unfold Obligations.RotateResultsAndCarry
  intro v c
  exact ⟨rotate_rlc_eq_exact v c, rotate_rrc_eq_exact v c, rotate_rl_eq_exact v c, rotate_rr_eq_exact v c,
    rotate_sla_eq_exact v c, rotate_sra_eq_exact v c, rotate_swap_eq_exact v c, rotate_srl_eq_exact v c⟩

/-- Settles O54: the forms on registers are their form's run; at HL both cycles go through, and the write cycle leaves the
flags written before it. -/
theorem rotateForms : Obligations.RotateForms := by
  unfold Obligations.RotateForms
  intro i s hs
  exact ⟨fun h => exec_of_form h s, fun h => exec_of_form h s, fun h => exec_of_form h s, fun h => exec_of_form h s,
    fun _ _ h => exec_of_run_ok h (modifyReg_ok rfl), fun _ h ha => exec_of_run_ok h (rotAtHl_ok hs ha rfl)⟩

end Sys2Proof.Proofs
end

section
/-! SUPPORT. BIT, RES and SET (46_bit R390 to R392): the bit that each one tests or changes, and what the form at HL does
where it may be accessed. -/

namespace Sys2Proof.Machine

open Sys2Proof

/-! ## The bit tested and the bit changed -/

/-- BIT's Z is the complement of the bit, read off the byte's value (R390). -/
theorem bitFlags_eq_exact (b : Fin 8) (v : Byte) (f : Flags) : bitFlags b v f =
    { f with z := decide (v.toNat / 2 ^ b.val % 2 = 0), n := false, h := true } := by
  have hbit : v.getLsbD b.val = decide (v.toNat / 2 ^ b.val % 2 = 1) := Nat.testBit_eq_decide_div_mod_eq
  rw [bitFlags, hbit, ← decide_not]
  simp only [Nat.mod_two_not_eq_one]

theorem one_shiftLeft_getLsbD (b : Fin 8) (k : Nat) : (1#8 <<< b.val).getLsbD k = decide (k = b.val) := by
  rw [← BitVec.twoPow_eq, BitVec.getLsbD_twoPow, decide_eq_true b.isLt, Bool.true_and]
  exact decide_eq_decide.mpr eq_comm

theorem resBit_getLsbD (b : Fin 8) (v : Byte) {k : Nat} (hk : k < 8) :
    (resBit b v).getLsbD k = (v.getLsbD k && decide (k ≠ b.val)) := by
  rw [resBit, BitVec.getLsbD_and, BitVec.getLsbD_not, one_shiftLeft_getLsbD, decide_eq_true hk, Bool.true_and, decide_not]

theorem setBit_getLsbD (b : Fin 8) (v : Byte) (k : Nat) :
    (setBit b v).getLsbD k = (v.getLsbD k || decide (k = b.val)) := by
  rw [setBit, BitVec.getLsbD_or, one_shiftLeft_getLsbD]

/-! ## The forms at HL -/

section
variable {s : State} (hs : s.Inv) (ha : s.accessible (s.r16 .hl) = true)
include hs ha

theorem bitAtHl_ok (b : Fin 8) : bitAtHl b s =
    .ok () ((s.afterRead (s.r16 .hl)).setFlags (bitFlags b (s.readValue (s.r16 .hl)) s.flags)) := by
  rw [bitAtHl, memRead_ok hs ha, Res.ok_bind]

/-- A read cycle at HL and a write cycle there of the byte that `op` makes of what was read. -/
theorem readModifyWriteHl_ok (op : Byte → Byte) :
    ((memRead (s.r16 .hl) s).bind fun v t => memWrite (s.r16 .hl) (op v) t) =
      .ok () ((s.afterRead (s.r16 .hl)).afterWrite (s.r16 .hl) (op (s.readValue (s.r16 .hl)))) := by
  have hwrite : (s.afterRead (s.r16 .hl)).accessible (s.r16 .hl) = true := by rwa [afterRead_accessible]
  rw [memRead_ok hs ha, Res.ok_bind, memWrite_ok (afterRead_inv hs _) hwrite]

end

end Sys2Proof.Machine
end

section
/-! The statement about BIT, RES and SET. -/

namespace Sys2Proof.Proofs

open Sys2Proof Sys2Proof.Machine

/-- Settles O55: the forms on registers are their form's run and the cycles of those at HL go through; the byte written is
the model's own, whose bits are known one by one. -/
theorem bitOperationResults : Obligations.BitOperationResults := by
  unfold Obligations.BitOperationResults
  intro i s b hs
  simp only [← bitFlags_eq_exact]
  exact ⟨fun _ h => exec_of_form h s,
    fun _ h => ⟨_, fun _ => resBit_getLsbD b _, exec_of_form h s⟩,
    fun _ h => ⟨_, fun k _ => setBit_getLsbD b _ k, exec_of_form h s⟩,
    fun ha => ⟨fun h => exec_of_run_ok h (bitAtHl_ok hs ha b),
      fun h => ⟨_, fun _ => resBit_getLsbD b _, exec_of_run_ok h (readModifyWriteHl_ok hs ha (resBit b))⟩,
      fun h => ⟨_, fun k _ => setBit_getLsbD b _ k, exec_of_run_ok h (readModifyWriteHl_ok hs ha (setBit b))⟩⟩⟩

end Sys2Proof.Proofs
end

section
/-! SUPPORT. The video unit over many dots (R562, R571): the position in the frame, and when a VBlank is requested. -/

namespace Sys2Proof.Machine

open Sys2Proof

theorem PpuRun.dots_add (m : Memory) (a b : Nat) (r : PpuRun) :
    PpuRun.dots m (a + b) r = PpuRun.dots m b (PpuRun.dots m a r) := by
  induction a generalizing r with
  | zero => rw [Nat.zero_add, PpuRun.dots]
  | succ a ih =>
    rw [Nat.add_right_comm]
    exact ih _

theorem PpuRun.dots_succ (m : Memory) (n : Nat) (r : PpuRun) :
    PpuRun.dots m (n + 1) r = (PpuRun.dots m n r).dot m := PpuRun.dots_add m n 1 r

theorem Ppu.position_lt {p : Ppu} (hp : PpuInv p) : p.position < 70224 := by
  have hly := hp.ly_lt
  have hdot := hp.dot_lt
  unfold Ppu.position
  omega

/-- After `n` dots of a run from the invariant: no failed check, the invariant, the position `n` further, and a VBlank
requested if one of the dots entered line 144 (R570, R571). -/
theorem PpuRun.dots_ok (m : Memory) {p : Ppu} (hp : PpuInv p) (n : Nat) :
    (PpuRun.dots m n (.start p)).fault = none ∧ PpuInv (PpuRun.dots m n (.start p)).ppu ∧
      (PpuRun.dots m n (.start p)).ppu.position = (p.position + n) % 70224 ∧
      ((PpuRun.dots m n (.start p)).vblank = true ↔ ∃ k, 1 ≤ k ∧ k ≤ n ∧ (p.position + k) % 70224 = 456 * 144) := by
  induction n with
  | zero =>
    refine ⟨rfl, hp, (Nat.mod_eq_of_lt (Ppu.position_lt hp)).symm, iff_of_false (by simp [dots, start]) ?_⟩
    rintro ⟨k, hpos, hle, -⟩
    omega
  | succ n ih =>
    obtain ⟨hfault, hinv, hpos, hvb⟩ := ih
    obtain ⟨hfault', hinv', hpos', hvb'⟩ := PpuRun.dot_ok m hfault hinv
    rw [hpos, Nat.mod_add_mod, Nat.add_assoc] at hpos'
    rw [PpuRun.dots_succ]
    refine ⟨hfault', hinv', hpos', ?_⟩
    rw [hvb', hvb, hpos']
    constructor
    · rintro (⟨k, h1, hk, h⟩ | h)
      · exact ⟨k, h1, by omega, h⟩
      · exact ⟨n + 1, by omega, Nat.le_refl _, h⟩
    · rintro ⟨k, h1, hk, h⟩
      rcases Nat.le_succ_iff.mp hk with hk | rfl
      · exact .inl ⟨k, h1, hk, h⟩
      · exact .inr h

end Sys2Proof.Machine

namespace Sys2Proof

open Sys2Proof.Machine

/-- The tables of R720 and R721 list the bytes of an instruction and the M-cycles of its form, taken or not. -/
theorem Instr.cost_eq {i : Instr} (hi : i.WellFormed) (hf : i.form.isFault = false) (flags : Flags) :
    i.cost (i.form.taken flags) = (encode i).length + i.form.ticks flags := by
  cases i
  case prefixCB => cases hi
  case stop | illegal_D3 | illegal_DB | illegal_DD | illegal_E3 | illegal_E4 | illegal_EB | illegal_EC | illegal_ED |
      illegal_F4 | illegal_FC | illegal_FD => cases hf
  case jr_NZ_e | jp_NZ_nn | call_NZ_nn | ret_NZ | jr_Z_e | jp_Z_nn | call_Z_nn | ret_Z =>
    rcases flags with ⟨_ | _, _, _, _⟩ <;> rfl
  case jr_NC_e | jp_NC_nn | call_NC_nn | ret_NC | jr_C_e | jp_C_nn | call_C_nn | ret_C =>
    rcases flags with ⟨_, _, _, _ | _⟩ <;> rfl
  all_goals rfl

end Sys2Proof
end

section
/-! The statements that hold of every dot of the video unit and of every instruction. -/

namespace Sys2Proof.Proofs

open Sys2Proof Sys2Proof.Machine

/-- Settles O25: one dot keeps the invariant and moves the position by one; the dots follow by induction. -/
theorem positionAdvancesOneDotAtATime : Obligations.PositionAdvancesOneDotAtATime := by
  unfold Obligations.PositionAdvancesOneDotAtATime
  intro m p n hp
  exact PpuRun.dots_ok m hp n

/-- Settles O39: the instruction goes through in the M-cycles of its form, and the tables list those and its bytes. -/
theorem everyInstructionCompletesInItsCycles : Obligations.EveryInstructionCompletesInItsCycles := by
  unfold Obligations.EveryInstructionCompletesInItsCycles
  intro i s hi hfault hs hf hallowed
  obtain ⟨t, ht, htf, hti, hcycles⟩ := exec_completes hi hfault hs hallowed
  refine ⟨t, ht, htf.trans hf, hti, ?_⟩
  rw [hcycles, Instr.cost_eq hi hfault]
  omega

end Sys2Proof.Proofs
end

section
/-! SUPPORT. Jumps, calls and returns (47_control R410 to R422): what each shared operation does from a state that meets
the invariant, and where the second of two stack accesses is forbidden. -/

namespace Sys2Proof.Machine

open Sys2Proof

/-! ## Transfers that complete -/

section
variable {s : State}

theorem onCond_of_taken {cc : Cond} (k : State → Res Unit) (h : s.flags.holds cc = true) : onCond cc k s = k s :=
  if_pos h

theorem onCond_of_not_taken {cc : Cond} (k : State → Res Unit) (h : s.flags.holds cc = false) :
    onCond cc k s = .ok () s := if_neg (by simp [h])

theorem jumpTo_ok (hs : s.Inv) (target : Word) : jumpTo target s = .ok () (s.ticked.setPC target) := by
  rw [jumpTo, tick_ok hs, Res.ok_bind]

theorem jr_ok (hs : s.Inv) (e : Byte) :
    jr e s = .ok () (s.ticked.setPC (BitVec.ofInt 16 ((s.pc.toNat : Int) + e.toInt))) := by
  rw [jr, jumpTo_ok hs, add_sext16_eq_ofInt]

/-- A conditional operation that completes when taken. -/
theorem onCond_ok {cc : Cond} {k : State → Res Unit} {t : State} (h : k s = .ok () t) :
    onCond cc k s = .ok () (if s.flags.holds cc then t else s) := by
  unfold onCond
  split
  · exact h
  · rfl

/-- The test of RET cc takes a cycle before the flags are looked at, which it leaves alone (R419). -/
theorem retCond_of_taken (hs : s.Inv) {cc : Cond} (h : s.flags.holds cc = true) :
    retCond cc s = returnToCaller s.ticked := by
  rw [retCond, tick_ok hs, Res.ok_bind, onCond_of_taken _ (by rwa [ticked_flags])]

theorem retCond_of_not_taken (hs : s.Inv) {cc : Cond} (h : s.flags.holds cc = false) :
    retCond cc s = .ok () s.ticked := by
  rw [retCond, tick_ok hs, Res.ok_bind, onCond_of_not_taken _ (by rwa [ticked_flags])]

theorem popAddrs_ticked_accessible (ha : ∀ a ∈ s.popAddrs, s.accessible a = true) :
    ∀ a ∈ s.ticked.popAddrs, s.ticked.accessible a = true := by
  simpa [State.popAddrs] using ha

theorem returnFromInterrupt_ok (hs : s.Inv) (ha : ∀ a ∈ s.popAddrs, s.accessible a = true) :
    returnFromInterrupt s = .ok () { s.afterPop.ticked.setPC s.popValue with ime := true } := by
  rw [returnFromInterrupt, returnToCaller_ok hs ha, Res.ok_bind]

end

/-- HALT looks at IME, the pending request and the parameter (R451, R452). -/
theorem halt_eq (s : State) :
    halt s = .ok () (if s.ime = false ∧ s.pending = true ∧ s.params.haltBug = true then { s with haltBug := true }
      else { s with halted := true }) := by
  have hcond : (!s.ime && s.pending && s.params.haltBug) = true ↔
      s.ime = false ∧ s.pending = true ∧ s.params.haltBug = true := by simp [and_assoc]
  unfold halt
  split
  · next h => rw [if_pos (hcond.mp h)]
  · next h => rw [if_neg (mt hcond.mpr h)]

/-! ## A fault on the second access -/

/-- The machine after a push whose low byte may not be stored: the high byte is, SP has moved by 2, and the second cycle
has ticked (R260, R503). -/
def State.afterHalfPush (s : State) (v : Word) : State :=
  { (((s.setSP (s.sp - 1)).afterWrite (s.sp - 1) (hiByte v)).setSP (s.sp - 2)).ticked with
    fault := some (.decodeFault (s.sp - 2) .write s.opPC) }

/-- The machine after a pop whose high byte may not be read: SP has moved by 1, and the second cycle has ticked. -/
def State.afterHalfPop (s : State) : State :=
  { ((s.afterRead s.sp).setSP (s.sp + 1)).ticked with fault := some (.decodeFault (s.sp + 1) .read s.opPC) }

@[simp] theorem afterRead_opPC (s : State) (a : Word) : (s.afterRead a).opPC = s.opPC := by simp [State.afterRead]
@[simp] theorem afterWrite_opPC (s : State) (a : Word) (v : Byte) : (s.afterWrite a v).opPC = s.opPC := by
  simp [State.afterWrite]

section
variable {s : State} (hs : s.Inv)
include hs

theorem pushWord_stops (v : Word) (h1 : s.accessible (s.sp - 1) = true) (h2 : s.accessible (s.sp - 2) = false) :
    pushWord v s = .stop (s.afterHalfPush v) := by
  have hinv : ((s.setSP (s.sp - 1)).afterWrite (s.sp - 1) (hiByte v)).Inv := afterWrite_inv (setSP_inv hs _) _ _
  have hsp : s.sp - 1 - 1 = s.sp - 2 := sub_one_sub_one _
  rw [pushWord, pushByte_ok hs _ h1, Res.ok_bind, pushByte, afterWrite_sp, setSP_sp, hsp,
    memWrite_stop (setSP_inv hinv _) (by simpa using h2)]
  simp [State.afterHalfPush]

theorem popWord_stops (h1 : s.accessible s.sp = true) (h2 : s.accessible (s.sp + 1) = false) :
    popWord s = .stop s.afterHalfPop := by
  have hinv : ((s.afterRead s.sp).setSP (s.sp + 1)).Inv := setSP_inv (afterRead_inv hs _) _
  rw [popWord, popByte_ok hs h1, Res.ok_bind, popByte, setSP_sp, memRead_stop hinv (by simpa using h2)]
  simp [State.afterHalfPop]

theorem ldAtNnSp_stops {nn : Word} (h1 : s.accessible nn = true) (h2 : s.accessible (nn + 1) = false) :
    ldAtNnSp nn s = .stop { (s.afterWrite nn (loByte s.sp)).ticked with
      fault := some (.decodeFault (nn + 1) .write s.opPC) } := by
  rw [ldAtNnSp, memWrite_ok hs h1, Res.ok_bind, memWrite_stop (afterWrite_inv hs _ _) (by simpa using h2),
    afterWrite_opPC]

/-- A push one internal cycle later (R264, R416). -/
theorem pushWord_ticked_stops (v : Word) (h1 : s.accessible (s.sp - 1) = true) (h2 : s.accessible (s.sp - 2) = false) :
    pushWord v s.ticked = .stop (s.ticked.afterHalfPush v) :=
  pushWord_stops (ticked_inv hs) v (by simpa using h1) (by simpa using h2)

theorem push_stops (rr : R16Stk) (h1 : s.accessible (s.sp - 1) = true) (h2 : s.accessible (s.sp - 2) = false) :
    push rr s = .stop (s.ticked.afterHalfPush (s.stk rr)) := by
  rw [push, tick_ok hs, Res.ok_bind, pushWord_ticked_stops hs _ h1 h2]

theorem callTo_stops (target : Word) (h1 : s.accessible (s.sp - 1) = true) (h2 : s.accessible (s.sp - 2) = false) :
    callTo target s = .stop (s.ticked.afterHalfPush s.pc) := by
  rw [callTo, tick_ok hs, Res.ok_bind, pushWord_ticked_stops hs _ h1 h2, Res.stop_bind]

theorem pop_stops (rr : R16Stk) (h1 : s.accessible s.sp = true) (h2 : s.accessible (s.sp + 1) = false) :
    pop rr s = .stop s.afterHalfPop := by
  rw [pop, popWord_stops hs h1 h2, Res.stop_bind]

theorem returnToCaller_stops (h1 : s.accessible s.sp = true) (h2 : s.accessible (s.sp + 1) = false) :
    returnToCaller s = .stop s.afterHalfPop := by
  rw [returnToCaller, popWord_stops hs h1 h2, Res.stop_bind]

theorem returnFromInterrupt_stops (h1 : s.accessible s.sp = true) (h2 : s.accessible (s.sp + 1) = false) :
    returnFromInterrupt s = .stop s.afterHalfPop := by
  rw [returnFromInterrupt, returnToCaller_stops hs h1 h2, Res.stop_bind]

/-- A pop one internal cycle later (R419). -/
theorem retCond_stops {cc : Cond} (hcc : s.flags.holds cc = true) (h1 : s.accessible s.sp = true)
    (h2 : s.accessible (s.sp + 1) = false) : retCond cc s = .stop s.ticked.afterHalfPop := by
  rw [retCond_of_taken hs hcc, returnToCaller_stops (ticked_inv hs) (by simpa using h1) (by simpa using h2)]

end

theorem afterHalfPush_ticked (s : State) (v : Word) : s.ticked.afterHalfPush v =
    { (((s.ticked.setSP (s.sp - 1)).afterWrite (s.sp - 1) (hiByte v)).setSP (s.sp - 2)).ticked with
      fault := some (.decodeFault (s.sp - 2) .write s.opPC) } := by
  rw [State.afterHalfPush, ticked_sp, ticked_opPC]

theorem afterHalfPop_ticked (s : State) : s.ticked.afterHalfPop =
    { ((s.ticked.afterRead s.sp).setSP (s.sp + 1)).ticked with
      fault := some (.decodeFault (s.sp + 1) .read s.opPC) } := by
  rw [State.afterHalfPop, ticked_sp, ticked_opPC]

end Sys2Proof.Machine

namespace Sys2Proof

open Sys2Proof.Machine

theorem exec_of_run_stop {i : Instr} {f : Form} {s t : State} (h : i.form = f) (hr : f.run s = .stop t)
    (hf : f ≠ .prefixCb := by nofun) : exec i s = .next t := by
  rw [exec_of_form h s hf, hr, Res.stop_finish]

end Sys2Proof
end

section
/-! The statements about control transfers and the system instructions. -/

namespace Sys2Proof.Proofs

open Sys2Proof Sys2Proof.Machine

/-- Settles O56: each jump that is taken is one tick and its target; the relative target is an exact sum. -/
theorem jumpResults : Obligations.JumpResults := by
  unfold Obligations.JumpResults
  intro i s hs rel
  exact ⟨fun nn h => exec_of_run_ok h (jumpTo_ok hs nn), fun cc nn h => exec_of_run_ok h (onCond_ok (jumpTo_ok hs nn)),
    fun h => exec_of_form h s, fun e h => exec_of_run_ok h (jr_ok hs e),
    fun cc e h => exec_of_run_ok h (onCond_ok (jr_ok hs e))⟩

/-- Settles O57: each call that is taken is the shared call of its target, whose cycles go through. -/
theorem callResults : Obligations.CallResults := by
  unfold Obligations.CallResults
  intro i s hs
  refine ⟨fun nn h ha => exec_of_run_ok h (callTo_ok hs nn ha), fun cc nn h hcc ha => ?_, fun cc nn h hcc => ?_,
    fun y h ha => ?_⟩
  · exact exec_of_run_ok h ((onCond_of_taken _ hcc).trans (callTo_ok hs nn ha))
  · exact exec_of_run_ok h (onCond_of_not_taken _ hcc)
  · rw [Nat.mul_comm]
    exact exec_of_run_ok h (callTo_ok hs _ ha)

/-- Settles O58: each return that is taken is the shared return, RET cc one tick later. -/
theorem returnResults : Obligations.ReturnResults := by
  unfold Obligations.ReturnResults
  intro i s hs
  refine ⟨fun h ha => exec_of_run_ok h (returnToCaller_ok hs ha),
    fun h ha => exec_of_run_ok h (returnFromInterrupt_ok hs ha), fun cc h hcc ha => ?_,
    fun cc h hcc => exec_of_run_ok h (retCond_of_not_taken hs hcc)⟩
  exact exec_of_run_ok h ((retCond_of_taken hs hcc).trans
    (returnToCaller_ok (ticked_inv hs) (popAddrs_ticked_accessible ha)))

/-- Settles O42: the run of each of these forms is the record of its fault. -/
theorem faultingOpcodesRecordTheirFault : Obligations.FaultingOpcodesRecordTheirFault := by
  unfold Obligations.FaultingOpcodesRecordTheirFault
  exact fun i s => ⟨fun h => exec_of_form h s, fun op h => exec_of_form h s⟩

/-- Settles O60: HALT by its test of IME, the request and the parameter; the others are their form's run. -/
theorem systemInstructionResults : Obligations.SystemInstructionResults := by
  unfold Obligations.SystemInstructionResults
  intro i s
  refine ⟨fun h => exec_of_form h s, fun h => ?_, fun h => exec_of_form h s, fun h => exec_of_form h s⟩
  exact exec_of_run_ok h (halt_eq s)

/-- Settles O41: each operation stops in its second access, with what the first one left. -/
theorem secondAccessFaultKeepsTheFirst : Obligations.SecondAccessFaultKeepsTheFirst := by
  unfold Obligations.SecondAccessFaultKeepsTheFirst
  intro i s hs
  simp only [← afterHalfPush_ticked]
  refine ⟨fun rr h h1 h2 => exec_of_run_stop h (push_stops hs rr h1 h2),
    fun nn h h1 h2 => exec_of_run_stop h (callTo_stops hs nn h1 h2), fun cc nn h hcc h1 h2 => ?_,
    fun y h h1 h2 => exec_of_run_stop h (callTo_stops hs _ h1 h2),
    fun rr h h1 h2 => exec_of_run_stop h (pop_stops hs rr h1 h2),
    fun h h1 h2 => exec_of_run_stop h (returnToCaller_stops hs h1 h2),
    fun h h1 h2 => exec_of_run_stop h (returnFromInterrupt_stops hs h1 h2), fun cc h hcc h1 h2 => ?_,
    fun nn h h1 h2 => exec_of_run_stop h (ldAtNnSp_stops hs h1 h2)⟩
  · exact exec_of_run_stop h ((onCond_of_taken _ hcc).trans (callTo_stops hs nn h1 h2))
  · rw [exec_of_run_stop h (retCond_stops hs hcc h1 h2), afterHalfPop_ticked]

end Sys2Proof.Proofs
end

section
/-! SUPPORT. Requests, the choice among them, and the dispatch (60_exceptions R505 to R514). -/

namespace Sys2Proof.Machine

open Sys2Proof

/-! ## The pending sources -/

theorem pendingBits_getLsbD (s : State) {k : Nat} (hk : k < 5) :
    s.pendingBits.getLsbD k = (s.ie.getLsbD k && s.intFlag.getLsbD k) := by
  simp [State.pendingBits, hk]

theorem pendingBits_getLsbD_eq_true (s : State) {k : Nat} (hk : k < 5) :
    s.pendingBits.getLsbD k = true ↔ s.ie.getLsbD k = true ∧ s.intFlag.getLsbD k = true := by
  rw [pendingBits_getLsbD s hk, Bool.and_eq_true]

theorem ne_zero_iff_exists_bit (v : BitVec 5) : v ≠ 0 ↔ ∃ k < 5, v.getLsbD k = true := by
  revert v
  decide

/-- The source chosen among set bits is set, and no lower one is (R509). -/
theorem lowestBit_spec (v : BitVec 5) (hv : v ≠ 0) :
    v.getLsbD (lowestBit v).val = true ∧ ∀ k < (lowestBit v).val, v.getLsbD k = false := by
  revert v
  decide

theorem pending_iff (s : State) :
    s.pending = true ↔ ∃ k < 5, s.ie.getLsbD k = true ∧ s.intFlag.getLsbD k = true := by
  rw [State.pending, decide_eq_true_iff, ne_zero_iff_exists_bit]
  exact exists_congr fun k => and_congr_right fun hk => pendingBits_getLsbD_eq_true s hk

theorem chosenSource_spec {s : State} (h : s.pending = true) :
    (s.ie.getLsbD s.chosenSource.val = true ∧ s.intFlag.getLsbD s.chosenSource.val = true) ∧
      ∀ k < s.chosenSource.val, ¬ (s.ie.getLsbD k = true ∧ s.intFlag.getLsbD k = true) := by
  obtain ⟨hset, hlow⟩ := lowestBit_spec s.pendingBits (of_decide_eq_true h)
  refine ⟨(pendingBits_getLsbD_eq_true s s.chosenSource.isLt).mp hset, fun k hk hboth => ?_⟩
  rw [← pendingBits_getLsbD_eq_true s (hk.trans s.chosenSource.isLt), hlow k hk] at hboth
  exact Bool.noConfusion hboth

/-- The lowest source that is both enabled and requested is the one chosen. -/
theorem chosenSource_eq {s : State} {k : Fin 5} (hset : s.ie.getLsbD k.val = true ∧ s.intFlag.getLsbD k.val = true)
    (hlow : ∀ j < k.val, ¬ (s.ie.getLsbD j = true ∧ s.intFlag.getLsbD j = true)) : s.chosenSource = k := by
  obtain ⟨hset', hlow'⟩ := chosenSource_spec ((pending_iff s).mpr ⟨k, k.isLt, hset⟩)
  rcases lt_trichotomy s.chosenSource k with h | h | h
  · exact absurd hset' (hlow _ h)
  · exact h
  · exact absurd hset (hlow' _ h)

theorem interruptVector_toNat (k : Fin 5) : (interruptVector k).toNat = 0x40 + 8 * k.val := by
  rw [interruptVector, BitVec.toNat_ofNat, Nat.mod_eq_of_lt (by omega)]

/-! ## The parts of a dispatch -/

theorem acceptInterrupt_inv {s : State} (hs : s.Inv) : (acceptInterrupt s).Inv := ⟨hs.mem_wf, hs.mem_stores, hs.ppu⟩

theorem ticks_inv {s : State} (hs : s.Inv) (n : Nat) : (State.ticks n s).Inv := by
  induction n generalizing s with
  | zero => exact hs
  | succ n ih => exact ih (ticked_inv hs)

theorem ticks_fault {s : State} (hs : s.Inv) (n : Nat) : (State.ticks n s).fault = s.fault := by
  induction n generalizing s with
  | zero => rfl
  | succ n ih => exact (ih (ticked_inv hs)).trans (ticked_fault hs)

/-- Ticks count themselves and leave the CPU, memory, PC's latch and the parameters alone (R101). -/
theorem ticks_keeps (n : Nat) (s : State) :
    (State.ticks n s).cycles = s.cycles + n ∧ (State.ticks n s).regs = s.regs ∧
      (State.ticks n s).latches = s.latches ∧ (State.ticks n s).mem = s.mem ∧ (State.ticks n s).opPC = s.opPC ∧
      (State.ticks n s).params = s.params := by
  induction n generalizing s with
  | zero => exact ⟨rfl, rfl, rfl, rfl, rfl, rfl⟩
  | succ n ih =>
    obtain ⟨hcycles, hregs, hlatches, hmem, hopPC, hparams⟩ := ih s.ticked
    simp only [ticked_cycles, ticked_regs, ticked_latches, ticked_mem, ticked_opPC, ticked_params] at *
    exact ⟨hcycles.trans (by omega), hregs, hlatches, hmem, hopPC, hparams⟩

@[simp] theorem afterWrite_latches (s : State) (a : Word) (v : Byte) : (s.afterWrite a v).latches = s.latches := by
  simp [State.afterWrite]

@[simp] theorem setSP_latches (s : State) (w : Word) : (s.setSP w).latches = s.latches := rfl
@[simp] theorem setSP_regs (s : State) (w : Word) : (s.setSP w).regs = { s.regs with sp := w } := rfl

/-- A push moves SP by 2 in two cycles and writes no other register and no latch (R260). -/
theorem afterPush_keeps (s : State) (v : Word) :
    (s.afterPush v).cycles = s.cycles + 2 ∧ (s.afterPush v).regs = { s.regs with sp := s.sp - 2 } ∧
      (s.afterPush v).latches = s.latches := by
  simp [State.afterPush]

/-- So does one that stops in its second write (R503). -/
theorem afterHalfPush_keeps (s : State) (v : Word) :
    (s.afterHalfPush v).cycles = s.cycles + 2 ∧ (s.afterHalfPush v).regs = { s.regs with sp := s.sp - 2 } ∧
      (s.afterHalfPush v).ime = s.ime := by
  simp [State.afterHalfPush, State.afterWrite]

theorem afterPush_fault {s : State} (hs : s.Inv) (v : Word) : (s.afterPush v).fault = s.fault := by
  have hfirst : ((s.setSP (s.sp - 1)).afterWrite (s.sp - 1) (hiByte v)).Inv := afterWrite_inv (setSP_inv hs _) _ _
  rw [State.afterPush, afterWrite_fault (setSP_inv hfirst _), setSP_fault, afterWrite_fault (setSP_inv hs _),
    setSP_fault]

/-- A push whose first address is forbidden: SP has moved by 1 and the cycle has ticked (R260, R503). -/
theorem pushWord_stops_first {s : State} (hs : s.Inv) (v : Word) (ha : s.accessible (s.sp - 1) = false) :
    pushWord v s = .stop { (s.setSP (s.sp - 1)).ticked with
      fault := some (.decodeFault (s.sp - 1) .write s.opPC) } := by
  rw [pushWord, pushByte, memWrite_stop (setSP_inv hs _) (by simpa using ha), Res.stop_bind, setSP_opPC]

theorem forall_pushAddrs {s : State} {P : Word → Prop} (h1 : P (s.sp - 1)) (h2 : P (s.sp - 2)) :
    ∀ a ∈ s.pushAddrs, P a := by
  intro a ha
  rcases List.mem_cons.mp ha with rfl | ha
  · exact h1
  · rwa [List.mem_singleton.mp ha]

/-! ## The dispatch -/

/-- The end of a dispatch: the return address pushed, one internal cycle, and the vector (R510). -/
def pushAndJump (ret target : Word) (s : State) : Res Unit :=
  (pushWord ret s).bind fun _ t => (tick t).bind fun _ t => .ok () (t.setPC target)

theorem serviceInterrupt_eq {s : State} (hs : s.Inv) : serviceInterrupt s =
    pushAndJump s.returnAddress (interruptVector s.chosenSource) (State.ticks 2 (acceptInterrupt s)) := by
  have haccept := acceptInterrupt_inv hs
  rw [serviceInterrupt, tick_ok haccept, Res.ok_bind, tick_ok (ticked_inv haccept), Res.ok_bind]
  rfl

theorem step_of_acceptsInterrupt {s : State} (hf : s.fault = none) (ha : s.acceptsInterrupt = true) :
    step s = .next (serviceInterrupt (beginStep s)).state := by
  simp [step, hf, ha, Res.finish]

section
variable {s : State} (hs : s.Inv) (ret target : Word)
include hs

theorem pushAndJump_ok (h1 : s.accessible (s.sp - 1) = true) (h2 : s.accessible (s.sp - 2) = true) :
    pushAndJump ret target s = .ok () ((s.afterPush ret).ticked.setPC target) := by
  rw [pushAndJump, pushWord_ok hs _ (forall_pushAddrs h1 h2), Res.ok_bind, tick_ok (afterPush_inv hs _), Res.ok_bind]

theorem pushAndJump_stops_first (h1 : s.accessible (s.sp - 1) = false) : pushAndJump ret target s =
    .stop { (s.setSP (s.sp - 1)).ticked with fault := some (.decodeFault (s.sp - 1) .write s.opPC) } := by
  rw [pushAndJump, pushWord_stops_first hs _ h1, Res.stop_bind]

theorem pushAndJump_stops (h1 : s.accessible (s.sp - 1) = true) (h2 : s.accessible (s.sp - 2) = false) :
    pushAndJump ret target s = .stop (s.afterHalfPush ret) := by
  rw [pushAndJump, pushWord_stops hs _ h1 h2, Res.stop_bind]

end

/-- `u` is the machine after the two internal cycles of a dispatch that interrupts `s` (R510, R511). -/
structure DispatchBegun (s u : State) : Prop where
  inv     : u.Inv
  fault   : u.fault = none
  cycles  : u.cycles = s.cycles + 2
  regs    : u.regs = s.regs
  latches : u.latches = ⟨false, false, false, false⟩
  mem     : u.mem = s.mem
  opPC    : u.opPC = s.pc
  params  : u.params = s.params

theorem dispatchBegun {s : State} (hs : s.Inv) (hf : s.fault = none) :
    DispatchBegun s (State.ticks 2 (acceptInterrupt (beginStep s))) := by
  have hinv : (acceptInterrupt (beginStep s)).Inv := acceptInterrupt_inv ⟨hs.mem_wf, hs.mem_stores, hs.ppu⟩
  obtain ⟨hcycles, hregs, hlatches, hmem, hopPC, hparams⟩ := ticks_keeps 2 (acceptInterrupt (beginStep s))
  exact ⟨ticks_inv hinv 2, (ticks_fault hinv 2).trans hf, hcycles, hregs, hlatches, hmem, hopPC, hparams⟩

namespace DispatchBegun

variable {s u : State} (hu : DispatchBegun s u) (ret target : Word)
include hu

theorem sp : u.sp = s.sp := congrArg Regs.sp hu.regs

theorem pc : u.pc = s.pc := congrArg Regs.pc hu.regs

theorem accessible (a : Word) : u.accessible a = s.accessible a := accessible_congr hu.params a

/-- What the whole dispatch leaves. -/
theorem afterPush : ((u.afterPush ret).ticked.setPC target).fault = none ∧
    ((u.afterPush ret).ticked.setPC target).cycles = s.cycles + 5 ∧
    ((u.afterPush ret).ticked.setPC target).regs = { s.regs with sp := s.sp - 2, pc := target } ∧
    ((u.afterPush ret).ticked.setPC target).latches = ⟨false, false, false, false⟩ := by
  obtain ⟨hcycles, hregs, hlatches⟩ := afterPush_keeps u ret
  refine ⟨?_, ?_, ?_, ?_⟩
  · rw [setPC_fault, ticked_fault (afterPush_inv hu.inv ret), afterPush_fault hu.inv, hu.fault]
  · rw [setPC_cycles, ticked_cycles, hcycles, hu.cycles]
  · rw [State.setPC, ticked_regs, hregs, hu.regs, hu.sp]
  · exact (ticked_latches _).trans (hlatches.trans hu.latches)

end DispatchBegun

end Sys2Proof.Machine
end

section
/-! The statements about interrupt requests and their dispatch. -/

namespace Sys2Proof.Proofs

open Sys2Proof Sys2Proof.Machine

/-- Settles O11: the pending bits are those of IE and IF together, and the choice is their lowest. -/
theorem lowestPendingSourceIsChosen : Obligations.LowestPendingSourceIsChosen := by
  unfold Obligations.LowestPendingSourceIsChosen
  intro s
  refine ⟨pending_iff s, fun h => ?_⟩
  obtain ⟨⟨hie, hif⟩, hlow⟩ := chosenSource_spec h
  exact ⟨hie, hif, hlow, interruptVector_toNat _⟩

/-- Settles O12: the dispatch of the chosen source, by its push: whole, or stopped in its first or its second write. -/
theorem interruptDispatchStep : Obligations.InterruptDispatchStep := by
  unfold Obligations.InterruptDispatchStep
  intro s k hs hf hime hie hif hlow started
  have hpending : s.pending = true := (pending_iff s).mpr ⟨k, k.isLt, hie, hif⟩
  have hchosen : s.chosenSource = k := chosenSource_eq ⟨hie, hif⟩ hlow
  have hstarted : acceptInterrupt (beginStep s) = started := by
    rw [acceptInterrupt, show (beginStep s).chosenSource = k from hchosen]
    rfl
  have hbegun : (beginStep s).Inv := ⟨hs.mem_wf, hs.mem_stores, hs.ppu⟩
  have hu : DispatchBegun s (State.ticks 2 started) := hstarted ▸ dispatchBegun hs hf
  have hstep : step s = .next (pushAndJump (if s.haltBug then s.pc - 1 else s.pc) (interruptVector k)
      (State.ticks 2 started)).state := by
    rw [step_of_acceptsInterrupt hf (by simp [State.acceptsInterrupt, hime, hpending]), serviceInterrupt_eq hbegun,
      hstarted, show (beginStep s).chosenSource = k from hchosen]
    rfl
  generalize (if s.haltBug then s.pc - 1 else s.pc) = ret at *
  generalize State.ticks 2 started = u at *
  simp only [← hu.accessible, ← hu.sp]
  refine ⟨fun h1 h2 => ?_, fun h1 => ?_, fun h1 h2 => ?_⟩
  · rw [pushAndJump_ok hu.inv ret _ h1 h2] at hstep
    obtain ⟨hfault, hcycles, hregs, hlatches⟩ := hu.afterPush ret (interruptVector k)
    refine ⟨_, hstep, hfault, rfl, hcycles, ?_, ?_, fun r => ?_, congrArg Latches.ime hlatches,
      congrArg Latches.eiPending hlatches, congrArg Latches.halted hlatches, congrArg Latches.haltBug hlatches⟩
    · exact (congrArg Regs.sp hregs).trans (by rw [hu.sp])
    · exact (congrArg Regs.flags hregs :)
    · exact (congrArg (Regs.get · r) hregs).trans (by cases r <;> rfl)
  · rw [pushAndJump_stops_first hu.inv ret _ h1, hu.opPC] at hstep
    exact ⟨_, hstep, rfl, (ticked_cycles _).trans (congrArg (· + 1) hu.cycles), ticked_sp _, (ticked_pc _).trans hu.pc,
      (ticked_mem _).trans hu.mem, (ticked_ime _).trans (congrArg Latches.ime hu.latches)⟩
  · rw [pushAndJump_stops hu.inv ret _ h1 h2] at hstep
    obtain ⟨hcycles, hregs, hime'⟩ := afterHalfPush_keeps u ret
    exact ⟨_, hstep, congrArg (fun pc => some (Fault.decodeFault _ _ pc)) hu.opPC,
      hcycles.trans (congrArg (· + 2) hu.cycles), (congrArg Regs.sp hregs :), (congrArg Regs.pc hregs).trans hu.pc,
      hime'.trans (congrArg Latches.ime hu.latches)⟩

end Sys2Proof.Proofs
end

section
/-! SUPPORT. The timer's edges (R530 to R535), the frame's budget (R610), and EI's latch along a fetch (R190). -/

namespace Sys2Proof.Machine

open Sys2Proof

/-! ## The edge count in the machine -/

/-- A timer operation that counts a falling edge, put back with its request (R532, R533). -/
theorem applyTimer_countEdge (before : Bool) (u : Timer) (s : State) : applyTimer (Timer.countEdge before u) s =
    if before = true ∧ u.signal = false then
      if u.tima = 0xFF then { s with timer := { u with tima := u.tma }, intFlag := s.intFlag ||| 0b00100 }
      else { s with timer := { u with tima := u.tima + 1 } }
    else { s with timer := u } := by
  have hedge : (before && !u.signal) = true ↔ before = true ∧ u.signal = false := by simp
  unfold Timer.countEdge Timer.inc
  by_cases hfall : before = true ∧ u.signal = false
  · rw [if_pos (hedge.mpr hfall), if_pos hfall]
    split
    · rfl
    · rfl
  · rw [if_neg (mt hedge.mp hfall), if_neg hfall]
    rfl

/-! ## The frame's loop -/

/-- A step adds one to six M-cycles to the total (R722): the fuel lasts to the budget, which the last step exceeds by
less than six. -/
theorem runFrameFrom_done {fuel total : Nat} {s t : State} {sum : Nat} (hfuel : 17556 ≤ total + fuel)
    (htotal : total < 17562) (h : runFrameFrom fuel total s = .done sum t) :
    17556 ≤ sum ∧ sum < 17562 ∧ t.cycles + total = s.cycles + sum := by
  induction fuel generalizing total s with
  | zero =>
    cases h
    exact ⟨hfuel, htotal, rfl⟩
  | succ fuel ih =>
    unfold runFrameFrom at h
    split at h
    · next hlt =>
      have hlt : total < 17556 := hlt
      split at h
      · next u hu =>
        have hcost := Proofs.stepCostsOneToSixCycles s u hu
        split at h
        · cases h
        · obtain ⟨hlo, hhi, hsum⟩ := ih (by omega) (by omega) h
          exact ⟨hlo, hhi, by omega⟩
      · cases h
      · cases h
    · next hge =>
      cases h
      exact ⟨Nat.not_lt.mp hge, htotal, rfl⟩

theorem step_ne_refused (s : State) (e : Refusal) : step s ≠ .refused e := by
  intro h
  cases hf : s.fault with
  | none =>
    obtain ⟨t, ht⟩ := step_next hf
    rw [ht] at h
    cases h
  | some f =>
    rw [(Proofs.faultEndsTheRun s f hf).1] at h
    cases h

theorem runFrameFrom_ne_refused (fuel total : Nat) (s : State) (e : Refusal) :
    runFrameFrom fuel total s ≠ .refused e := by
  induction fuel generalizing total s with
  | zero => nofun
  | succ fuel ih =>
    unfold runFrameFrom
    split
    · split
      · split
        · nofun
        · exact ih _ _
      · nofun
      · next hr => exact absurd hr (step_ne_refused s _)
    · nofun

/-! ## A fetch that goes through -/

/-- Where `r`, begun in `s`, goes through, no fault is recorded on the way. -/
structure Res.KeepsFault {α : Type} (r : Res α) (s : State) : Prop where
  ok : ∀ v t, r = .ok v t → t.fault = s.fault

section
variable {α β : Type} {s : State}

theorem Res.KeepsFault.bind {r : Res α} {k : α → State → Res β} (hr : r.KeepsFault s)
    (hk : ∀ v t, (k v t).KeepsFault t) : (r.bind k).KeepsFault s where
  ok v t h := by
    obtain ⟨w, u, hu, ht⟩ := Res.bind_eq_ok h
    exact ((hk w u).ok v t ht).trans (hr.ok w u hu)

theorem Res.keepsFault_ok {v : α} {t : State} (h : t.fault = s.fault) : (Res.ok v t).KeepsFault s where
  ok _ _ hu := by
    cases hu
    exact h

theorem Res.keepsFault_stop {t : State} : (Res.stop t : Res α).KeepsFault s where
  ok _ _ h := nomatch h

theorem busTick_keepsFault : (busTick s).KeepsFault s := by
  cases hf : (s.ppu.tick s.mem).fault with
  | none =>
    rw [busTick_of_noFault hf]
    exact Res.keepsFault_ok (by rw [State.tickEnd_eq])
  | some f =>
    rw [busTick_of_fault hf]
    exact Res.keepsFault_stop

theorem decodeRead_keepsFault (a : Word) : (decodeRead a s).KeepsFault s := by
  unfold decodeRead
  split
  · exact Res.keepsFault_ok (noteRead_fault s a)
  · exact Res.keepsFault_stop

theorem memRead_keepsFault (a : Word) : (memRead a s).KeepsFault s :=
  busTick_keepsFault.bind fun _ _ => decodeRead_keepsFault a

theorem fetch8_keepsFault : (fetch8 s).KeepsFault s :=
  (memRead_keepsFault _).bind fun _ _ => Res.keepsFault_ok rfl

theorem fetchOpcode_keepsFault : (fetchOpcode s).KeepsFault s := by
  refine (memRead_keepsFault _).bind fun op t => Res.keepsFault_ok ?_
  unfold afterOpcodeRead
  split <;> rfl

theorem fetchInstr_keepsFault : (fetchInstr s).KeepsFault s := by
  refine fetchOpcode_keepsFault.bind fun op t => ?_
  split
  · exact Res.keepsFault_ok rfl
  · exact fetch8_keepsFault.bind fun _ _ => Res.keepsFault_ok rfl
  · exact fetch8_keepsFault.bind fun _ _ => fetch8_keepsFault.bind fun _ _ => Res.keepsFault_ok rfl

end

/-- Of the latches, a fetch writes at most that of the halt bug (R186). -/
theorem fetchInstr_latches (s : State) : (fetchInstr s).state.ime = s.ime ∧
    (fetchInstr s).state.eiPending = s.eiPending ∧ (fetchInstr s).state.halted = s.halted := by
  have hkeeps : BusKeeps (fun _ => True)
      (fun t => t.ime = s.ime ∧ t.eiPending = s.eiPending ∧ t.halted = s.halted) :=
    ⟨fun t h => by simpa using h, fun t a h => by simpa using h, fun t a v _ h => by simpa using h, fun _ _ _ h => h⟩
  exact hkeeps.fetchInstr (fun _ _ h => h) (fun _ h => h) ⟨rfl, rfl, rfl⟩

theorem applyDelayedEi_fault (b : Bool) (s : State) : (applyDelayedEi b s).fault = s.fault := by
  unfold applyDelayedEi
  split <;> rfl

/-- A step that executes, by the instruction it fetches and what that answers; the fetch recorded no fault and left IME
and EI's latch alone, and the CPU is awake (R180 to R183). -/
theorem step_of_fetched {s t : State} {i : Instr} (hs : s.Executes) (h : fetchInstr (wake (beginStep s)) = .ok i t) :
    t.fault = none ∧ t.ime = s.ime ∧ t.eiPending = s.eiPending ∧ t.halted = false ∧
      ∃ u, exec i t = .next u ∧ step s = .next (applyDelayedEi s.eiPending u) := by
  obtain ⟨hime, hei, hhalted⟩ := fetchInstr_latches (wake (beginStep s))
  rw [h] at hime hei hhalted
  obtain ⟨u, hu⟩ := exec_next i t
  refine ⟨(fetchInstr_keepsFault.ok i t h).trans hs.1, hime, hei, hhalted, u, hu, ?_⟩
  rw [(Proofs.stepRunsTheFetchedInstruction s hs).1 i t h, hu, endInstruction]

/-- With EI's latch set, no instruction but DI clears it (R454). -/
theorem exec_eiPending {i : Instr} {s t : State} (hi : i.WellFormed) (hdi : i ≠ .di) (hs : s.eiPending = true)
    (h : exec i s = .next t) : t.eiPending = true := by
  by_cases hei : i.form = .ei
  · rw [(Proofs.systemInstructionResults i s).2.2.2 hei] at h
    cases h
    rfl
  · exact ((exec_leavesControl hi h).latches.eiPending (fun e => hdi (form_eq_di e)) hei).trans hs

end Sys2Proof.Machine
end

section
/-! The statements about the timer's edges, the LCD's enable, the frame's budget and the delayed EI. -/

namespace Sys2Proof.Proofs

open Sys2Proof Sys2Proof.Machine

/-- Settles O22: the tick and the two writes each count the falling edge of the same signal. -/
theorem timerCountsFallingEdges : Obligations.TimerCountsFallingEdges := by
  unfold Obligations.TimerCountsFallingEdges
  intro s v bit signal counted
  have hbit : ∀ tac : BitVec 3, (⟨0, 0, 0, tac⟩ : Timer).selectedBit = bit tac := by
    simp only [bit]
    decide
  have hsignal (u : Timer) : u.signal = signal u := by
    show (u.tac.getLsbD 2 && u.sysclk.getLsbD u.selectedBit) = (u.tac.getLsbD 2 && u.sysclk.getLsbD (bit u.tac))
    rw [← hbit]
    rfl
  have hcounted (u : Timer) : applyTimer (Timer.countEdge s.timer.signal u) s = counted u := by
    rw [applyTimer_countEdge, hsignal, hsignal]
  refine ⟨hcounted _, fun hmap => ⟨?_, ?_⟩⟩
  · exact (decode_of_defaultMap (r := .div) v hmap rfl).2.trans (congrArg _ (hcounted _))
  · exact (decode_of_defaultMap (r := .tac) v hmap rfl).2.trans (congrArg _ (hcounted _))

/-- Settles O24: by the two cases of the write, and the tick's own test of bit 7. -/
theorem lcdEnableTransitions : Obligations.LcdEnableTransitions := by
  unfold Obligations.LcdEnableTransitions
  intro m p v
  exact ⟨fun h => if_neg h, fun h => if_pos h, fun h => if_neg (ne_true_of_eq_false h)⟩

/-- Settles O34: each step adds one to six M-cycles to the total, so the fuel outlasts the budget. -/
theorem frameMeetsItsBudget : Obligations.FrameMeetsItsBudget := by
  unfold Obligations.FrameMeetsItsBudget
  refine fun s => ⟨fun total t h => ?_, runFrameFrom_ne_refused _ _ s⟩
  obtain ⟨hlo, hhi, hcycles⟩ := runFrameFrom_done (Nat.le_refl _) (by decide) h
  exact ⟨hlo, by omega, hcycles⟩

/-- Settles O15: EI sets its latch alone, with which no interrupt is taken; the next instruction's end then sets IME,
unless DI cleared the latch. -/
theorem enableIsDelayedByOneInstruction : Obligations.EnableIsDelayedByOneInstruction := by
  unfold Obligations.EnableIsDelayedByOneInstruction
  intro s a t hs hime hei hfetch hstep
  obtain ⟨hfault, haime, -, hhalted, v, hv, hstep'⟩ := step_of_fetched hs hfetch
  rw [hei, applyDelayedEi_false, ← hv, hstep] at hstep'
  obtain rfl : t = { a with eiPending := true } := Host.Outcome.next.inj hstep'
  have htime : a.ime = false := haime.trans hime
  have hexec : State.Executes { a with eiPending := true } :=
    ⟨hfault, by simp [State.acceptsInterrupt, htime], by simp [State.idles, hhalted]⟩
  refine ⟨htime, hexec, fun i b u hfetch hstep hu => ?_⟩
  obtain ⟨-, hbime, hbei, -, v, hv, hstep'⟩ := step_of_fetched hexec hfetch
  rw [hstep] at hstep'
  cases hstep'
  have hvf : v.fault = none := (applyDelayedEi_fault _ v).symm.trans hu
  rw [applyDelayedEi_of_noFault _ hvf]
  by_cases hdi : i = .di
  · subst hdi
    cases hv
    rfl
  · simp [exec_eiPending (fetchInstr_isWhole hfetch) hdi hbei hv, hdi]

end Sys2Proof.Proofs
end

section
/-! SUPPORT. The OAM scan of a line, dot by dot (R563, R564): an entry is looked at in every even dot, and the
buffer holds the first ten that meet the line. -/

namespace Sys2Proof.Machine

open Sys2Proof

theorem PpuInv.ly_lt_of_mode {p : Ppu} (hp : PpuInv p) (hm : p.mode ≠ .vblank) : p.ly < 144 :=
  Nat.not_le.mp fun h => hm (hp.vblank_iff.mpr h)

/-! ## One dot -/

/-- A dot whose work fails no check, short of the end of the line. -/
theorem PpuRun.dot_start {m : Memory} {p q : Ppu} (h : p.modeDot m = (q, none)) (hdot : q.dot + 1 ≠ 456) :
    (PpuRun.start p).dot m = .start { q with dot := q.dot + 1 } := by
  simp [PpuRun.dot, start, h, Ppu.advance, hdot]

/-! ## The entries kept -/

/-- The first ten of the first `n` OAM entries that meet the line of `p`, in OAM order. -/
def Ppu.spritesOf (m : Memory) (p : Ppu) (n : Nat) : List Sprite :=
  (((List.range n).map (oamEntry m)).filter p.meetsLine).take 10

/-- An entry more is kept where it meets the line and the buffer has room (R563). -/
theorem Ppu.spritesOf_succ (m : Memory) (p : Ppu) (n : Nat) : p.spritesOf m (n + 1) =
    if p.meetsLine (oamEntry m n) = true ∧ (p.spritesOf m n).length < 10 then p.spritesOf m n ++ [oamEntry m n]
    else p.spritesOf m n := by
  simp only [spritesOf, List.range_succ, List.map_append, List.map_cons, List.map_nil, List.filter_append,
    List.length_take]
  generalize ((List.range n).map (oamEntry m)).filter p.meetsLine = kept
  by_cases hmeets : p.meetsLine (oamEntry m n) = true
  case neg => simp [hmeets]
  by_cases hroom : kept.length < 10
  · have hfits : (kept ++ [oamEntry m n]).length ≤ 10 := by simpa using hroom
    simp [hmeets, hroom, List.take_of_length_le hfits, List.take_of_length_le (Nat.le_of_lt hroom)]
  · rw [List.take_append_of_le_length (by omega), if_neg (by omega)]

/-- The machine's test is the line's, with room in the buffer. -/
theorem Ppu.keeps_iff (p : Ppu) (dot : Nat) (b : List Sprite) (e : Sprite) :
    ({ p with dot := dot, spriteBuf := b } : Ppu).keeps e = true ↔ p.meetsLine e = true ∧ b.length < 10 := by
  simp [keeps, meetsLine, spriteHeight, and_assoc]

/-! ## The scan -/

/-- The line of `p` after `n` dots of its OAM scan. -/
def Ppu.scanned (m : Memory) (p : Ppu) (n : Nat) : Ppu :=
  { p with dot := n, spriteBuf := p.spritesOf m ((n + 1) / 2) }

theorem Ppu.scanEntry_scanned (m : Memory) (p : Ppu) (n : Nat) :
    (p.scanned m n).scanEntry m = { p with dot := n, spriteBuf := p.spritesOf m ((n + 2) / 2) } := by
  unfold scanEntry scanned
  dsimp only
  split
  · next heven =>
    have hentries : (n + 1) / 2 = n / 2 := by omega
    rw [show (n + 2) / 2 = n / 2 + 1 by omega, spritesOf_succ, hentries]
    simp only [keeps_iff]
  · next hodd => rw [show (n + 2) / 2 = (n + 1) / 2 by omega]

theorem Ppu.modeDot_scanned {m : Memory} {p : Ppu} (hm : p.mode = .oamScan) {n : Nat} (hn : n < 79) :
    (p.scanned m n).modeDot m = ({ p with dot := n, spriteBuf := p.spritesOf m ((n + 2) / 2) }, none) := by
  have hmode : (p.scanned m n).mode = .oamScan := hm
  rw [modeDot, hmode]
  simp only [oamScanDot, scanEntry_scanned]
  rw [if_neg (by omega)]

/-- After `n` dots, short of the last one. -/
theorem PpuRun.dots_scan {m : Memory} {p : Ppu} (hm : p.mode = .oamScan) (hdot : p.dot = 0) (hb : p.spriteBuf = [])
    {n : Nat} (hn : n ≤ 79) : PpuRun.dots m n (.start p) = .start (p.scanned m n) := by
  induction n with
  | zero =>
    cases p
    cases hdot
    cases hb
    rfl
  | succ n ih =>
    rw [PpuRun.dots_succ, ih (by omega), PpuRun.dot_start (Ppu.modeDot_scanned hm (by omega)) (by simp; omega)]
    rfl

/-- The 80th dot looks at no entry and makes the line ready to draw (R564). -/
theorem PpuRun.dots_scan_end {m : Memory} {p : Ppu} (hm : p.mode = .oamScan) (hdot : p.dot = 0)
    (hb : p.spriteBuf = []) : PpuRun.dots m 80 (.start p) =
      .start { p with dot := 80, spriteBuf := p.spritesOf m 40, mode := .draw }.drawInit := by
  have hmode : (p.scanned m 79).mode = .oamScan := hm
  have hwork : (p.scanned m 79).modeDot m =
      ({ p with dot := 79, spriteBuf := p.spritesOf m 40, mode := .draw }.drawInit, none) := by
    rw [Ppu.modeDot, hmode]
    simp only [Ppu.oamScanDot, Ppu.scanEntry_scanned, if_true]
  rw [PpuRun.dots_succ m 79, dots_scan hm hdot hb (Nat.le_refl _), PpuRun.dot_start hwork (show 79 + 1 ≠ 456 by decide)]
  rfl

end Sys2Proof.Machine
end

section
/-! The statement about the OAM scan. -/

namespace Sys2Proof.Proofs

open Sys2Proof Sys2Proof.Machine

/-- Settles O26: 79 dots scan the 40 entries, and the last dot, which looks at none, makes the line ready to draw. -/
theorem oamScanKeepsTheFirstTenSprites : Obligations.OamScanKeepsTheFirstTenSprites := by
  unfold Obligations.OamScanKeepsTheFirstTenSprites
  intro m p _ hm hdot hb q
  have hq : q = { p with dot := 80, spriteBuf := p.spritesOf m 40, mode := .draw }.drawInit :=
    congrArg PpuRun.ppu (PpuRun.dots_scan_end hm hdot hb)
  rw [hq]
  exact ⟨rfl, rfl, rfl, rfl, rfl, rfl, rfl, rfl⟩

end Sys2Proof.Proofs
end

section
/-! SUPPORT. The drawing of a line, dot by dot (R565 to R569). The fetcher's rows are the background from the scrolled
tile on, a stream of which the first SCX mod 8 pixels are dropped; how many pixels have been fetched and emitted after a
number of dots depends on that number alone. -/

namespace Sys2Proof.Machine

open Sys2Proof

/-! ## The stream of fetched pixels -/

/-- The map's tile number for the fetcher's `k`-th tile of the line (R566). -/
def Ppu.tileAt (m : Memory) (p : Ppu) (k : Nat) : Byte :=
  m.read { p with fetch := { p.fetch with fetchX := BitVec.ofNat 8 k } }.mapAddr

/-- Where the row of that tile lies (R566). -/
def Ppu.rowAddr (m : Memory) (p : Ppu) (k : Nat) : Nat :=
  { p with fetch := { p.fetch with tileNo := p.tileAt m k } }.tileAddr

/-- The fetcher with both planes of that row (R566). -/
def Ppu.rowAt (m : Memory) (p : Ppu) (k : Nat) : Fetch :=
  { p.fetch with lo := m.read (p.rowAddr m k), hi := m.read (p.rowAddr m k + 1) }

/-- Pixel `j` of the line's stream (R567). -/
def Ppu.streamPixel (m : Memory) (p : Ppu) (j : Nat) : Shade := (p.rowAt m (j / 8)).pixel (j % 8)

/-- The stream is the background, begun SCX mod 8 pixels left of the first column. -/
theorem Ppu.streamPixel_eq_background (m : Memory) (p : Ppu) (x : Nat) :
    p.streamPixel m (p.scx.toNat % 8 + x) = p.background m x := by
  have htile : (p.scx.toNat / 8 + (BitVec.ofNat 8 ((p.scx.toNat % 8 + x) / 8)).toNat) % 32 =
      (p.scx.toNat + x) / 8 % 32 := by
    rw [BitVec.toNat_ofNat]
    omega
  have hbit : (p.scx.toNat % 8 + x) % 8 = (p.scx.toNat + x) % 8 := by omega
  have hrow : (p.ly + p.scy.toNat) % 8 = (p.ly + p.scy.toNat) % 256 % 8 := by omega
  simp only [streamPixel, rowAt, rowAddr, tileAt, mapAddr, tileAddr, Fetch.pixel, background, htile, hbit, hrow]

/-! ## The counts -/

/-- Where the drawing of a line stands: the tiles pushed, the pixels emitted or dropped, and the dots that the fetcher
has spent on its current tile, 6 once both planes are read. -/
structure DrawCount where
  pushed  : Nat
  emitted : Nat
  age     : Nat

/-- The pixels that are queued. -/
def DrawCount.queued (c : DrawCount) : Nat := 8 * c.pushed - c.emitted

/-- The fetcher's part of a dot: a row is pushed when it is read and at most 8 pixels are queued (R566). -/
def DrawCount.fetched (c : DrawCount) : DrawCount :=
  if 5 ≤ c.age ∧ c.queued ≤ 8 then { c with pushed := c.pushed + 1, age := 0 }
  else { c with age := min (c.age + 1) 6 }

/-- The emitter's part: a pixel leaves when 8 are queued (R565). -/
def DrawCount.drained (c : DrawCount) : DrawCount :=
  if 8 ≤ c.queued then { c with emitted := c.emitted + 1 } else c

/-- The counts after `n` dots: rows are pushed in dots 6, 12 and 19 and then every eighth, pixels leave in dot 6 and
from dot 12 on in every dot. -/
def DrawCount.after (n : Nat) : DrawCount :=
  if n < 6 then ⟨0, 0, n⟩
  else if n < 12 then ⟨1, 1, n - 6⟩
  else if n < 19 then ⟨2, n - 10, min (n - 12) 6⟩
  else ⟨3 + (n - 19) / 8, n - 10, min ((n - 19) % 8) 6⟩

/-- Eight dots for each row from the fourth on: six to read it, and two more until 8 pixels are left. -/
theorem DrawCount.after_steady (k : Nat) {n : Nat} (h : n < 8) :
    after (19 + 8 * k + n) = ⟨3 + k, 9 + 8 * k + n, min n 6⟩ := by
  rw [after, if_neg (by omega), if_neg (by omega), if_neg (by omega), show 19 + 8 * k + n - 19 = 8 * k + n by omega,
    show (8 * k + n) / 8 = k by omega, show (8 * k + n) % 8 = n by omega,
    show 19 + 8 * k + n - 10 = 9 + 8 * k + n by omega]

section
variable {c : DrawCount}

theorem DrawCount.fetched_of_push (ha : 5 ≤ c.age) (hq : c.queued ≤ 8) : c.fetched = ⟨c.pushed + 1, c.emitted, 0⟩ :=
  if_pos ⟨ha, hq⟩

theorem DrawCount.fetched_of_wait (h : c.age < 5 ∨ 8 < c.queued) :
    c.fetched = ⟨c.pushed, c.emitted, min (c.age + 1) 6⟩ := if_neg (by omega)

theorem DrawCount.drained_of_full (h : 8 ≤ c.queued) : c.drained = ⟨c.pushed, c.emitted + 1, c.age⟩ := if_pos h

theorem DrawCount.drained_of_short (h : c.queued < 8) : c.drained = c := if_neg (by omega)

end

theorem DrawCount.after_succ_steady (k : Nat) {n : Nat} (h : n < 8) :
    after (19 + 8 * k + n + 1) = (after (19 + 8 * k + n)).fetched.drained := by
  rw [after_steady k h]
  by_cases hlast : n = 7
  · subst hlast
    rw [fetched_of_push (show 5 ≤ min 7 6 by decide) (by simp only [queued]; omega),
      drained_of_full (by simp only [queued]; omega)]
    exact after_steady (k + 1) (n := 0) (by decide)
  · rw [fetched_of_wait (by simp only [queued]; omega), drained_of_full (by simp only [queued]; omega), Nat.add_assoc,
      after_steady k (by omega), show min (n + 1) 6 = min (min n 6 + 1) 6 by omega]
    rfl

theorem DrawCount.after_succ (n : Nat) : after (n + 1) = (after n).fetched.drained := by
  rcases Nat.lt_or_ge n 19 with h | h
  · interval_cases n <;> rfl
  · obtain ⟨k, r, hr, rfl⟩ : ∃ k r, r < 8 ∧ n = 19 + 8 * k + r := ⟨(n - 19) / 8, (n - 19) % 8, by omega, by omega⟩
    exact after_succ_steady k hr

theorem DrawCount.after_emitted_le (n : Nat) : (after n).emitted ≤ 8 * (after n).pushed := by
  unfold after
  split_ifs <;> simp <;> omega

theorem DrawCount.after_emitted_lt {n k : Nat} (h : n < 170 + k) : (after n).emitted < k + 160 := by
  unfold after
  split_ifs <;> simp <;> omega

theorem DrawCount.after_emitted_end (k : Nat) : (after (170 + k)).emitted = k + 160 := by
  rw [after, if_neg (by omega), if_neg (by omega), if_neg (by omega)]
  show 170 + k - 10 = k + 160
  omega

section
variable (c : DrawCount)

@[simp] theorem DrawCount.fetched_emitted : c.fetched.emitted = c.emitted := by unfold fetched; split <;> rfl
@[simp] theorem DrawCount.drained_pushed : c.drained.pushed = c.pushed := by unfold drained; split <;> rfl
@[simp] theorem DrawCount.drained_age : c.drained.age = c.age := by unfold drained; split <;> rfl

end

/-! ## The fetcher -/

/-- The fetcher `age` dots into tile `k` of the line of `p`: what it has read is the stream's. -/
structure FetchesAt (m : Memory) (p : Ppu) (f : Fetch) (k age : Nat) : Prop where
  fetchX : f.fetchX = BitVec.ofNat 8 k
  tile   : age < 2 → f.phase = .tile ∧ f.pdot = age
  data   : 2 ≤ age → f.phase = .data ∧ f.pdot + 2 = age ∧ f.tileNo = p.tileAt m k
  lo     : 4 ≤ age → f.lo = m.read (p.rowAddr m k)
  hi     : 6 ≤ age → f.hi = m.read (p.rowAddr m k + 1)
  age_le : age ≤ 6

theorem FetchesAt.start (m : Memory) (p : Ppu) : FetchesAt m p Fetch.start 0 0 :=
  ⟨rfl, fun _ => ⟨rfl, rfl⟩, nofun, nofun, nofun, by decide⟩

/-! ## The line at a count -/

/-- The bitmap once the first `n` columns of the line of `p` are painted. -/
def Ppu.painted (m : Memory) (p : Ppu) (n : Nat) : Bitmap :=
  (List.range n).foldl (fun bm x => Bitmap.put bm p.ly x (p.expectedShade m x)) p.bitmap

theorem Ppu.painted_succ (m : Memory) (p : Ppu) (n : Nat) :
    p.painted m (n + 1) = Bitmap.put (p.painted m n) p.ly n (p.expectedShade m n) := by
  rw [painted, List.range_succ, List.foldl_append]
  rfl

/-- The stream's pixels that are queued at a count. -/
def Ppu.queueAt (m : Memory) (p : Ppu) (c : DrawCount) : List Shade :=
  (List.range' c.emitted c.queued).map (p.streamPixel m)

/-- The line of `p` at a count of its drawing: of the pixels that left, the first SCX mod 8 were dropped and the others
painted. -/
def Ppu.drawn (m : Memory) (p : Ppu) (dot : Nat) (c : DrawCount) (f : Fetch) : Ppu :=
  { p with dot := dot, x := c.emitted - p.scx.toNat % 8, discard := p.scx.toNat % 8 - c.emitted,
           bgFifo := p.queueAt m c, bitmap := p.painted m (c.emitted - p.scx.toNat % 8), fetch := f }

section
variable {m : Memory} {p : Ppu} {c : DrawCount} {f : Fetch} {k age dot : Nat}

theorem Ppu.queueAt_length : (p.queueAt m c).length = c.queued := by simp [queueAt]

theorem Ppu.mapAddr_drawn (h : f.fetchX = BitVec.ofNat 8 k) : m.read (p.drawn m dot c f).mapAddr = p.tileAt m k := by
  rw [tileAt, ← h]
  rfl

theorem Ppu.tileAddr_drawn (h : f.tileNo = p.tileAt m k) : (p.drawn m dot c f).tileAddr = p.rowAddr m k := by
  rw [rowAddr, ← h]
  rfl

/-- The TILE phase (R566). -/
theorem Ppu.fetchTile_drawn (h : FetchesAt m p f k age) (ht : age < 2) :
    ∃ f', (p.drawn m dot c f).fetchTile m = p.drawn m dot c f' ∧ FetchesAt m p f' k (age + 1) := by
  obtain ⟨hphase, hpdot⟩ := h.tile ht
  by_cases hlast : f.pdot + 1 = 2
  · refine ⟨_, if_pos hlast, h.fetchX, by omega, fun _ => ⟨rfl, by dsimp only; omega, mapAddr_drawn h.fetchX⟩, by omega,
      by omega, by omega⟩
  · exact ⟨_, if_neg hlast, h.fetchX, fun _ => ⟨hphase, by dsimp only [drawn]; omega⟩, by omega, by omega, by omega,
      by omega⟩

/-- The reading dots of the DATA phase, and the wait that follows them (R566). -/
theorem Ppu.fetchPlanes_drawn (h : FetchesAt m p f k age) (hd : 2 ≤ age) :
    ∃ f', (p.drawn m dot c f).fetchPlanes m = p.drawn m dot c f' ∧ FetchesAt m p f' k (min (age + 1) 6) := by
  obtain ⟨hphase, hpdot, htile⟩ := h.data hd
  have haddr : (p.drawn m dot c f).tileAddr = p.rowAddr m k := tileAddr_drawn htile
  by_cases hread : f.pdot < 4
  · refine ⟨_, if_pos hread, h.fetchX, by omega, fun _ => ⟨hphase, by dsimp only [drawn]; omega, htile⟩, fun h4 => ?_,
      fun h6 => ?_, by omega⟩
    · rw [haddr]
      split
      · rfl
      · next hne => exact h.lo (by simp only [drawn] at hne; omega)
    · rw [haddr]
      exact if_pos (by simp only [drawn]; omega)
  · have hage : age = 6 := by have := h.age_le; omega
    subst hage
    exact ⟨f, if_neg hread, h⟩

/-- The row that ends tile `k` is the stream's next 8 pixels (R567). -/
theorem FetchesAt.pixel_eq (h : FetchesAt m p f k 6) {i : Nat} (hi : i < 8) :
    f.pixel i = p.streamPixel m (8 * k + i) := by
  rw [Ppu.streamPixel, show (8 * k + i) / 8 = k by omega, show (8 * k + i) % 8 = i by omega, Fetch.pixel, Fetch.pixel,
    h.lo (by decide), h.hi (by decide)]
  rfl

theorem Ppu.queueAt_push (h : FetchesAt m p f c.pushed 6) (hc : c.emitted ≤ 8 * c.pushed) (a : Nat) :
    p.queueAt m c ++ (List.range 8).map f.pixel = p.queueAt m ⟨c.pushed + 1, c.emitted, a⟩ := by
  have hrow : (List.range 8).map f.pixel = (List.range' (8 * c.pushed) 8).map (p.streamPixel m) := by
    rw [List.range'_eq_map_range, List.map_map]
    exact List.map_congr_left fun i hi => h.pixel_eq (List.mem_range.mp hi)
  have hjoin : List.range' c.emitted c.queued ++ List.range' (8 * c.pushed) 8 =
      List.range' c.emitted (8 * (c.pushed + 1) - c.emitted) := by
    rw [show 8 * c.pushed = c.emitted + c.queued by simp only [DrawCount.queued]; omega, List.range'_append_1,
      show c.queued + 8 = 8 * (c.pushed + 1) - c.emitted by simp only [DrawCount.queued]; omega]
  rw [hrow, queueAt, ← List.map_append, hjoin]
  rfl

/-- The end of the DATA phase: the push, or the wait for it (R566). -/
theorem Ppu.fetchPush_drawn (h : FetchesAt m p f c.pushed (min (c.age + 1) 6)) (hd : 2 ≤ c.age)
    (hc : c.emitted ≤ 8 * c.pushed) : ∃ f', (p.drawn m dot c f).fetchPush = (p.drawn m dot c.fetched f', none) ∧
      FetchesAt m p f' c.fetched.pushed c.fetched.age := by
  obtain ⟨hphase, hpdot, -⟩ := h.data (by omega)
  have hlen : (p.drawn m dot c f).bgFifo.length = c.queued := queueAt_length
  have hdot : (p.drawn m dot c f).fetch.pdot = f.pdot := rfl
  by_cases hpush : 5 ≤ c.age ∧ c.queued ≤ 8
  · obtain ⟨ha, hq⟩ := hpush
    rw [show min (c.age + 1) 6 = 6 by omega] at h hpdot
    rw [fetchPush, if_pos ⟨by omega, by omega⟩, pushRow_ok _ (by omega), DrawCount.fetched_of_push ha hq]
    refine ⟨{ f with fetchX := f.fetchX + 1, phase := .tile, pdot := 0 }, ?_, ?_, fun _ => ⟨rfl, rfl⟩, nofun, nofun,
      nofun, Nat.zero_le _⟩
    · rw [show (p.drawn m dot c f).bgFifo ++ (List.range 8).map (p.drawn m dot c f).fetch.pixel = _ from
        queueAt_push h hc 0]
      rfl
    · rw [h.fetchX]
      exact (BitVec.ofNat_add _ _).symm
  · rw [fetchPush, if_neg (by omega), DrawCount.fetched_of_wait (by omega)]
    exact ⟨f, rfl, h⟩

/-- The fetcher's part of a dot: no check fails, and the counts say whether it pushes. -/
theorem Ppu.fetcherStep_drawn (h : FetchesAt m p f c.pushed c.age) (hc : c.emitted ≤ 8 * c.pushed) :
    ∃ f', (p.drawn m dot c f).fetcherStep m = (p.drawn m dot c.fetched f', none) ∧
      FetchesAt m p f' c.fetched.pushed c.fetched.age := by
  have hfetch : (p.drawn m dot c f).fetch = f := rfl
  rcases Nat.lt_or_ge c.age 2 with ht | hd
  · obtain ⟨f', hstep, hf'⟩ := fetchTile_drawn (c := c) h ht
    rw [fetcherStep, hfetch, (h.tile ht).1, DrawCount.fetched_of_wait (by omega)]
    rw [show c.age + 1 = min (c.age + 1) 6 by omega] at hf'
    exact ⟨f', by dsimp only; rw [hstep]; rfl, hf'⟩
  · obtain ⟨f', hplanes, hf'⟩ := fetchPlanes_drawn (c := c) h hd
    rw [fetcherStep, hfetch, (h.data hd).1]
    dsimp only
    rw [hplanes]
    exact fetchPush_drawn hf' hd hc

/-! ## The emitter -/

theorem Ppu.queueAt_pop (hq : 0 < c.queued) (a : Nat) :
    p.queueAt m c = p.streamPixel m c.emitted :: p.queueAt m ⟨c.pushed, c.emitted + 1, a⟩ := by
  rw [queueAt, show c.queued = 8 * c.pushed - (c.emitted + 1) + 1 by simp only [DrawCount.queued] at *; omega]
  rfl

theorem Ppu.emitPixel_drop {s : Shade} {rest : List Shade} (hq : p.bgFifo = s :: rest) (hd : 0 < p.discard) :
    p.emitPixel = ({ p with bgFifo := rest, discard := p.discard - 1 }, none) := by
  rw [emitPixel, hq]
  exact if_pos hd

theorem Ppu.emitPixel_paint {s : Shade} {rest : List Shade} (hq : p.bgFifo = s :: rest) (hd : p.discard = 0)
    (hx : p.x < 160) : p.emitPixel = ({ p with
      bgFifo := rest, x := p.x + 1
      bitmap := Bitmap.put p.bitmap p.ly p.x (if p.lcdc.getLsbD 0 then p.shade s else 0) }, none) := by
  rw [emitPixel, hq]
  dsimp only
  rw [if_neg (by omega), if_neg (by omega)]

/-- The emitter's part of a dot while a column is left: a pixel is dropped or painted when 8 are queued (R565, R568). -/
theorem Ppu.emitIfReady_drawn (hx : c.emitted < p.scx.toNat % 8 + 160) :
    (p.drawn m dot c f).emitIfReady = (p.drawn m dot c.drained f, none) := by
  have hlen : (p.drawn m dot c f).bgFifo.length = c.queued := queueAt_length
  rcases Nat.lt_or_ge c.queued 8 with hshort | hfull
  · rw [emitIfReady, if_neg (by omega), DrawCount.drained_of_short hshort]
  have hpop : (p.drawn m dot c f).bgFifo = _ := queueAt_pop (by omega) c.age
  rw [emitIfReady, if_pos (by omega), DrawCount.drained_of_full hfull]
  rcases Nat.lt_or_ge c.emitted (p.scx.toNat % 8) with hdrop | hpaint
  · rw [emitPixel_drop hpop (Nat.sub_pos_of_lt hdrop)]
    simp only [drawn, Nat.sub_sub, show c.emitted + 1 - p.scx.toNat % 8 = c.emitted - p.scx.toNat % 8 by omega]
  · have hpixel : p.streamPixel m c.emitted = p.background m (c.emitted - p.scx.toNat % 8) := by
      rw [← streamPixel_eq_background, Nat.add_sub_cancel' hpaint]
    have hdiscard : (p.drawn m dot c f).discard = 0 := Nat.sub_eq_zero_of_le hpaint
    have hcolumn : (p.drawn m dot c f).x < 160 := by show c.emitted - p.scx.toNat % 8 < 160; omega
    rw [emitPixel_paint hpop hdiscard hcolumn, hpixel]
    simp only [drawn, show c.emitted + 1 - p.scx.toNat % 8 = c.emitted - p.scx.toNat % 8 + 1 by omega, painted_succ,
      show p.scx.toNat % 8 - (c.emitted + 1) = p.scx.toNat % 8 - c.emitted by omega]
    rfl

/-! ## The dots -/

/-- The work of a drawing dot: the fetcher, then the emitter (R565). -/
theorem Ppu.drawDot_drawn (hly : p.ly < 144) (h : FetchesAt m p f c.pushed c.age) (hc : c.emitted ≤ 8 * c.pushed)
    (hx : c.emitted < p.scx.toNat % 8 + 160) :
    ∃ f', (p.drawn m dot c f).drawDot m = ((p.drawn m dot c.fetched.drained f').endDraw, none) ∧
      FetchesAt m p f' c.fetched.drained.pushed c.fetched.drained.age := by
  obtain ⟨f', hfetch, hf'⟩ := fetcherStep_drawn (dot := dot) h hc
  have hemit : (p.drawn m dot c.fetched f').emitIfReady = (p.drawn m dot c.fetched.drained f', none) :=
    emitIfReady_drawn (by rwa [DrawCount.fetched_emitted])
  refine ⟨f', ?_, by rwa [DrawCount.drained_pushed, DrawCount.drained_age]⟩
  rw [drawDot, if_neg (Nat.not_le.mpr hly : ¬ 144 ≤ (p.drawn m dot c f).ly), hfetch]
  dsimp only
  rw [hemit]

theorem Ppu.endDraw_of_lt (h : p.x < 160) : p.endDraw = p := if_neg (Nat.ne_of_lt h)

theorem Ppu.endDraw_of_eq (h : p.x = 160) : p.endDraw = { p with mode := .hblank } := if_pos h

theorem Ppu.endDraw_dot (p : Ppu) : p.endDraw.dot = p.dot := by
  unfold endDraw
  split <;> rfl

theorem Ppu.endDraw_withDot (p : Ppu) (dot : Nat) :
    ({ p with dot := dot } : Ppu).endDraw = { p.endDraw with dot := dot } := by
  unfold endDraw
  split <;> rfl

theorem Ppu.drawn_start (m : Memory) (hdot : p.dot = 80) (hinit : p = p.drawInit) :
    p.drawn m 80 (.after 0) Fetch.start = p := by
  conv_rhs => rw [hinit]
  rw [drawn, show (DrawCount.after 0).emitted = 0 from rfl, Nat.zero_sub, ← hdot]
  rfl

/-- A line about to draw, after any number of dots up to the end of its drawing. -/
theorem PpuRun.dots_draw (hly : p.ly < 144) (hm : p.mode = .draw) (hdot : p.dot = 80) (hinit : p = p.drawInit) {n : Nat}
    (hn : n ≤ 170 + p.scx.toNat % 8) : ∃ f, FetchesAt m p f (DrawCount.after n).pushed (DrawCount.after n).age ∧
      PpuRun.dots m n (.start p) = .start (p.drawn m (80 + n) (.after n) f).endDraw := by
  induction n with
  | zero =>
    refine ⟨Fetch.start, .start m p, ?_⟩
    rw [Nat.add_zero, Ppu.drawn_start m hdot hinit, Ppu.endDraw_of_lt (by rw [hinit]; exact Nat.zero_lt_succ _)]
    rfl
  | succ n ih =>
    obtain ⟨f, hf, hdots⟩ := ih (by omega)
    have hemitted : (DrawCount.after n).emitted < p.scx.toNat % 8 + 160 := DrawCount.after_emitted_lt (by omega)
    obtain ⟨f', hdraw, hf'⟩ := Ppu.drawDot_drawn (dot := 80 + n) hly hf (DrawCount.after_emitted_le n) hemitted
    rw [← DrawCount.after_succ] at hdraw hf'
    have hcolumn : (p.drawn m (80 + n) (.after n) f).x < 160 := by
      show (DrawCount.after n).emitted - p.scx.toNat % 8 < 160
      omega
    have hmode : (p.drawn m (80 + n) (.after n) f).modeDot m =
        ((p.drawn m (80 + n) (.after (n + 1)) f').endDraw, none) := by
      rw [Ppu.modeDot, show (p.drawn m (80 + n) (.after n) f).mode = .draw from hm]
      exact hdraw
    have hline : (p.drawn m (80 + n) (.after (n + 1)) f').endDraw.dot + 1 ≠ 456 := by
      have hscroll : p.scx.toNat % 8 < 8 := Nat.mod_lt _ (by decide)
      rw [Ppu.endDraw_dot]
      show 80 + n + 1 ≠ 456
      omega
    refine ⟨f', hf', ?_⟩
    rw [PpuRun.dots_succ, hdots, Ppu.endDraw_of_lt hcolumn, PpuRun.dot_start hmode hline, Ppu.endDraw_dot,
      ← Ppu.endDraw_withDot]
    rfl

/-- The last dot of the drawing paints the last column, and HBLANK begins (R569). -/
theorem PpuRun.dots_draw_end (hly : p.ly < 144) (hm : p.mode = .draw) (hdot : p.dot = 80) (hinit : p = p.drawInit) :
    (PpuRun.dots m (170 + p.scx.toNat % 8) (.start p)).ppu.mode = .hblank ∧
      (PpuRun.dots m (170 + p.scx.toNat % 8) (.start p)).ppu.bitmap = p.painted m 160 := by
  obtain ⟨f, -, hdots⟩ := PpuRun.dots_draw (m := m) hly hm hdot hinit (Nat.le_refl _)
  have hcolumn : (DrawCount.after (170 + p.scx.toNat % 8)).emitted - p.scx.toNat % 8 = 160 := by
    rw [DrawCount.after_emitted_end, Nat.add_sub_cancel_left]
  rw [hdots, PpuRun.start, Ppu.endDraw_of_eq hcolumn]
  exact ⟨rfl, congrArg (p.painted m) hcolumn⟩

theorem PpuRun.dots_draw_mode (hly : p.ly < 144) (hm : p.mode = .draw) (hdot : p.dot = 80) (hinit : p = p.drawInit)
    {n : Nat} (hn : n < 170 + p.scx.toNat % 8) : (PpuRun.dots m n (.start p)).ppu.mode = .draw := by
  obtain ⟨f, -, hdots⟩ := PpuRun.dots_draw (m := m) hly hm hdot hinit (Nat.le_of_lt hn)
  have hemitted := DrawCount.after_emitted_lt hn
  have hcolumn : (p.drawn m (80 + n) (.after n) f).x < 160 := by
    show (DrawCount.after n).emitted - p.scx.toNat % 8 < 160
    omega
  rw [hdots, PpuRun.start, Ppu.endDraw_of_lt hcolumn]
  exact hm

end

/-! ## The bitmap -/

theorem Bitmap.put_getElem (bm : Bitmap) (row col : Nat) (v : Shade) {r c : Nat} (hr : r < 144) (hc : c < 160) :
    ((Bitmap.put bm row col v)[r])[c] = if r = row ∧ c = col then v else (bm[r])[c] := by
  unfold Bitmap.put
  by_cases hrow : row < 144
  case neg =>
    rw [Vector.getElem?_eq_none (by omega), if_neg (by omega)]
  rw [Vector.getElem?_eq_getElem hrow]
  simp only [Vector.getElem_setIfInBounds]
  by_cases hsame : row = r
  · subst hsame
    simp only [if_true, true_and, Vector.getElem_setIfInBounds]
    exact if_congr eq_comm rfl rfl
  · have hother : r ≠ row := Ne.symm hsame
    simp only [hsame, hother, if_false, false_and]

/-- The painted columns show their shades; every other one is as before. -/
theorem Ppu.painted_getElem (m : Memory) (p : Ppu) (n : Nat) {r c : Nat} (hr : r < 144) (hc : c < 160) :
    ((p.painted m n)[r])[c] = if r = p.ly ∧ c < n then p.expectedShade m c else (p.bitmap[r])[c] := by
  induction n with
  | zero =>
    rw [if_neg (by omega)]
    rfl
  | succ n ih =>
    rw [Ppu.painted_succ, Bitmap.put_getElem _ _ _ _ hr hc, ih]
    by_cases hlast : r = p.ly ∧ c = n
    · obtain ⟨hrow, rfl⟩ := hlast
      rw [if_pos ⟨hrow, rfl⟩, if_pos ⟨hrow, Nat.lt_succ_self c⟩]
    · rw [if_neg hlast]
      exact if_congr (by omega) rfl rfl

end Sys2Proof.Machine
end

section
/-! The statements about the video unit's lines. -/

namespace Sys2Proof.Proofs

open Sys2Proof Sys2Proof.Machine

/-- Settles O27: the counts after a number of dots say whether a column is left. -/
theorem drawLengthIsFixedByScroll : Obligations.DrawLengthIsFixedByScroll := by
  unfold Obligations.DrawLengthIsFixedByScroll
  intro m p hp hm hdot hinit
  have hly : p.ly < 144 := hp.ly_lt_of_mode (by rw [hm]; nofun)
  exact ⟨fun n hn => PpuRun.dots_draw_mode hly hm hdot hinit hn, (PpuRun.dots_draw_end hly hm hdot hinit).1⟩

/-- Settles O28: each pixel painted is the stream's, which is the background from the scrolled position on. -/
theorem drawnLineShowsTheBackground : Obligations.DrawnLineShowsTheBackground := by
  unfold Obligations.DrawnLineShowsTheBackground
  intro m p hp hm hdot hinit q row col hr hc
  have hly : p.ly < 144 := hp.ly_lt_of_mode (by rw [hm]; nofun)
  have hq : q.bitmap = p.painted m 160 := (PpuRun.dots_draw_end hly hm hdot hinit).2
  simp only [hq, Ppu.painted_getElem m p 160 hr hc, hc, and_true]

end Sys2Proof.Proofs
end
